-- ==== Sys2Proof/Word.lean ====
section
/-! DEFINITION. The word types of the ZL-4800 that the manual lays out in bits: bytes of the two links, the
two-byte values of an event, and the pin set, whose bits 0 to 9 stand for pins 1 to 10 (11_house_and_machine_links,
TABLE 7). Everything else of the machine is a number, a name or a record, and is no bit vector. -/

namespace Sys2Proof

/-- A byte of the house link or of the machine link. -/
abbrev Byte := BitVec 8

/-- A two-byte value of an event: a ball speed in hundredths of a metre per second, or a fault code (TABLE 7). -/
abbrev Half := BitVec 16

/-- A pin set: bit k stands for pin k + 1 (TABLE 7). The set holds each pin at most once and has no order. -/
abbrev PinSet := BitVec 10

/-- The empty pin set. -/
abbrev noPins : PinSet := 0#10

/-- The full rack, the pin set of the ten pins (00_scope, TABLE 3). -/
abbrev fullRack : PinSet := 1023#10

end Sys2Proof
end

