-- ==== Sys2Proof/Syntax.lean ====
section
/-! DEFINITION. The commands of the ZL-4800: one constructor of `Instr` for each row of spec/opcode_table.json, with the
operands its rule names. A request carries a `Header` (its origin and its sequence byte, R176) and then what it
names; a machine event names its lane or its pair; a timer, a supply or a line event names what it concerns.

The manual gives no byte layout for the body of a request, so an operand stands here as the value it names: a
number may be out of range (the machine refuses it), and a NAME that may be unknown to the machine is an `Option`,
`none` standing for a name that is not one of the manual's. -/

namespace Sys2Proof

/-! ### Names of the manual -/

/-- The source of a request (R176; 11 TABLE 3): the desk, a lane console of a pair, or a service station. -/
inductive Origin where
  | desk
  | console (pair : Nat)
  | station (number : Nat)
deriving DecidableEq, Repr

/-- What every request carries beside its body: its origin and its sequence byte (11 TABLE 3). -/
structure Header where
  origin : Origin
  sequence : Byte
deriving DecidableEq, Repr

/-- The six hold causes (01 TABLE 3). -/
inductive HoldCause where
  | attention | call | link | restart | desk | allowance
deriving DecidableEq, Repr

/-- The six discrepancy kinds, in order of precedence (06 TABLE 1). -/
inductive Discrepancy where
  | noReading | pinRise | setMismatch | doubleBall | earlyBall | phantomFall
deriving DecidableEq, Repr

/-- The place of a kind in the order of precedence, 0 the highest (06 TABLE 1). -/
def Discrepancy.place : Discrepancy → Fin 6
  | .noReading => 0
  | .pinRise => 1
  | .setMismatch => 2
  | .doubleBall => 3
  | .earlyBall => 4
  | .phantomFall => 5

/-- The nine call kinds, in kind order (R137, 08 TABLE 1). -/
inductive CallKind where
  | machineJam | cycleTimeout | setFail | readerFail | returnJam | wakeFail | ballInPit | assist | desk
deriving DecidableEq, Repr

/-- The place of a call kind in the kind order (R137). -/
def CallKind.place : CallKind → Fin 9
  | .machineJam => 0
  | .cycleTimeout => 1
  | .setFail => 2
  | .readerFail => 3
  | .returnJam => 4
  | .wakeFail => 5
  | .ballInPit => 6
  | .assist => 7
  | .desk => 8

/-- What a module reports it can sense (01 TABLE 1): the set drawn from CAMERA, FOUL_BEAM and SPEED_SENSOR. -/
structure Capabilities where
  camera : Bool
  foulBeam : Bool
  speedSensor : Bool
deriving DecidableEq, Repr

/-! ### Operands of the requests -/

/-- The options that SET LANE OPTIONS names; an absent one keeps its value (R3, 01 TABLE 2). Reading and cycle
timeouts are in tenths of a second, the warm-up timeout in whole seconds. -/
structure LaneOptionsEdit where
  consoleWake : Option Bool
  pitCall : Option Bool
  consoleEdits : Option Bool
  consoleCorrections : Option Bool
  manualScoring : Option Bool
  readingTimeout : Option Nat
  cycleTimeout : Option Nat
  warmUpTimeout : Option Nat
deriving DecidableEq, Repr

/-- The actions of RESOLVE (R121). -/
inductive ResolveAction where
  | accept
  | enter (pins : PinSet)
  | void
deriving DecidableEq, Repr

/-- A bowler as FORM SQUAD and ADD BOWLER give one (R77, R78): a name tag in character codes, and an average. -/
structure BowlerEntry where
  nameTag : List Byte
  average : Nat
deriving DecidableEq, Repr

/-- The handicap rule of a squad: basis, percent and cap (04 TABLE 1). -/
structure HandicapRule where
  basis : Nat
  percent : Nat
  cap : Nat
deriving DecidableEq, Repr

/-- The parts of the handicap rule that SET SQUAD names (R80). -/
structure HandicapEdit where
  basis : Option Nat
  percent : Option Nat
  cap : Option Nat
deriving DecidableEq, Repr

/-- A dispatch setting of a class (R144). -/
inductive DispatchSetting where
  | strict
  | ratio (n : Nat)
deriving DecidableEq, Repr

/-- How CLEAR CALL names what it clears (R147). A `none` kind is a name that is not a call kind. -/
inductive CallTarget where
  | byNumber (number : Nat)
  | byLaneAndKind (lane : Nat) (kind : Option CallKind)
deriving DecidableEq, Repr

/-- What a rate plan prices (R152). -/
inductive PlanKind where
  | game | time
deriving DecidableEq, Repr

/-- How the increments of a TIME plan are rounded (R152, R170). -/
inductive Rounding where
  | nearest | up | down
deriving DecidableEq, Repr

/-- One band of a rate plan: start minute of the day and price in cents (R152). -/
structure Band where
  start : Nat
  price : Nat
deriving DecidableEq, Repr

/-- A tab's allowance (R154, section 9.5). -/
inductive Allowance where
  | unlimited
  | games (n : Nat)
  | minutes (n : Nat)
deriving DecidableEq, Repr

/-! ### The commands -/

/-- The commands of the part, one constructor for each row of spec/opcode_table.json, in the table's order. -/
inductive Instr where
  -- requests, codes 1 to 59 (11 TABLE 1)
  | laneStatus (header : Header) (lane : Nat)
  | setLaneOptions (header : Header) (lane : Nat) (edit : LaneOptionsEdit)
  | deskHold (header : Header) (lane : Nat)
  | deskRelease (header : Header) (lane : Nat) (cause : Option HoldCause)
  | wake (header : Header) (lane : Nat)
  | laneOut (header : Header) (lane : Nat)
  | laneIn (header : Header) (lane : Nat)
  | laneReset (header : Header) (lane : Nat)
  | move (header : Header) (source : Nat) (destination : Nat)
  | manualEntry (header : Header) (lane : Nat) (standingAfter : PinSet) (foulMark : Option Bool)
  | setDiscrepancyMask (header : Header) (lane : Nat) (bits : Vector (Option Bool) 6)
  | resolve (header : Header) (lane : Nat) (action : Option ResolveAction)
  | clearFlags (header : Header) (lane : Nat) (kinds : List (Option Discrepancy))
  | readFaultContext (header : Header) (lane : Nat)
  | formSquad (header : Header) (lane : Nat) (bowlers : List BowlerEntry) (autoNext : Option Bool)
      (rule : Option HandicapRule)
  | addBowler (header : Header) (squad : Nat) (entry : BowlerEntry)
  | setOrder (header : Header) (squad : Nat) (order : List Nat)
  | markAway (header : Header) (bowler : Nat)
  | markBack (header : Header) (bowler : Nat)
  | removeBowler (header : Header) (bowler : Nat)
  | setBowler (header : Header) (bowler : Nat) (nameTag : Option (List Byte)) (average : Option Nat)
  | setSquad (header : Header) (squad : Nat) (autoNext : Option Bool) (rule : HandicapEdit)
  | endSquad (header : Header) (squad : Nat)
  | readSquad (header : Header) (squad : Nat)
  | readBowler (header : Header) (bowler : Nat)
  | startGame (header : Header) (lane : Nat)
  | pairPlay (header : Header) (pair : Nat) (autoNext : Option Bool)
  | endPairPlay (header : Header) (pair : Nat)
  | correctBall (header : Header) (bowler : Nat) (frame : Nat) (ball : Nat) (standingAfter : PinSet)
      (foulMark : Bool)
  | returnClear (header : Header) (pair : Nat)
  | setReturnTimeout (header : Header) (pair : Nat) (seconds : Nat)
  | returnStatus (header : Header) (pair : Nat)
  | assist (header : Header) (lane : Nat)
  | deskCall (header : Header) (lane : Nat)
  | setClassMap (header : Header) (classes : List (Option CallKind × Nat))
  | setDispatch (header : Header) (settings : Vector (Option DispatchSetting) 4)
  | nextCall (header : Header) (station : Nat)
  | returnCall (header : Header) (number : Nat)
  | clearCall (header : Header) (target : CallTarget)
  | callList (header : Header)
  | setPlan (header : Header) (plan : Nat) (kind : Option PlanKind) (bands : List Band) (increment : Nat)
      (rounding : Option Rounding) (minimum : Nat)
  | clearPlan (header : Header) (plan : Nat)
  | readPlan (header : Header) (plan : Nat)
  | openTab (header : Header) (plan : Nat) (lane : Option Nat) (autoWake : Bool)
      (allowance : Option (Option Allowance)) (lead : Option Nat)
  | attach (header : Header) (tab : Nat) (lane : Nat) (autoWake : Bool)
  | detach (header : Header) (lane : Nat)
  | close (header : Header) (tab : Nat)
  | settle (header : Header) (tab : Nat)
  | addItem (header : Header) (tab : Nat) (code : Nat) (quantity : Nat) (price : Nat)
  | removeItem (header : Header) (tab : Nat) (code : Nat)
  | adjustAllowance (header : Header) (tab : Nat) (allowance : Option Allowance) (lead : Option Nat)
  | ackWarning (header : Header) (tab : Nat)
  | readTab (header : Header) (tab : Nat)
  | bill (header : Header) (tab : Nat)
  | attentionSummary (header : Header)
  | setClock (header : Header) (day : Nat) (hour : Nat) (minute : Nat) (second : Nat)
  | readClock (header : Header)
  | readRestart (header : Header)
  | restart (header : Header)
  -- the start that follows the answer to RESTART, and the framing of the house link
  | restartStart
  | headerRefused (sequence : Byte)
  | frameDropped
  | frameGapTimeout
  | linkClear
  -- the machine link
  | poll
  | pollAnswer (frame : List Byte)
  | pollNoAnswer
  -- the module events (11 TABLE 7)
  | present (pair : Nat) (capabilities : Capabilities)
  | ready (lane : Nat)
  | ballSeen (lane : Nat) (speed : Option Half)
  | foul (lane : Nat)
  | deckRead (lane : Nat) (reading : PinSet)
  | cycleDone (lane : Nat) (verification : Option PinSet)
  | fault (lane : Nat) (code : Half)
  | ballBack (pair : Nat)
  | returnFault (pair : Nat)
  -- timers
  | readingDeadline (lane : Nat)
  | cycleDeadline (lane : Nat)
  | foulWindowExpiry (lane : Nat)
  | warmUpDeadline (lane : Nat)
  | returnDeadline (pair : Nat)
  | secondBoundary
  -- supply, lines and the house receive line
  | mainPowerLost
  | sbokLow (staysLow : Bool)
  | powerReturn
  | resetAsserted
  | resetReleased
  | receiveByte (value : Byte)
deriving DecidableEq, Repr

end Sys2Proof
end

