-- ==== Sys2Proof/Config.lean ====
section
/-! DEFINITION. What the manual fixes for every ZL-4800 (00_scope TABLE 4, and the chapter that specifies each value),
and the one thing it leaves open that the model needs as a function: the layout of a request's body. Timebase values
are in tenths of a second (R27), amounts of money in cents. -/

namespace Sys2Proof.Config

/-- Lanes of the house, numbered from 1 (00_scope, Lanes, pairs and pins). -/
abbrev lanes : Nat := 48

/-- Lane pairs of the house, one lane-pair module each. -/
abbrev pairs : Nat := 24

/-- Service stations. -/
abbrev stations : Nat := 4

/-- Bowler records (R50). -/
abbrev bowlers : Nat := 384

/-- Squad records (R76). -/
abbrev squads : Nat := 48

/-- Tab records (R154). -/
abbrev tabs : Nat := 64

/-- Rate plans, numbered from 0 (R152). -/
abbrev plans : Nat := 8

/-- Bowlers of a squad at most (R76). -/
abbrev squadSize : Nat := 8

/-- Game totals kept for a bowler (R66). -/
abbrev gameTotals : Nat := 8

/-- Calls the queue holds (R138). -/
abbrev queueRoom : Nat := 32

/-- Calls a station holds (R139, R145). -/
abbrev stationRoom : Nat := 2

/-- The largest call number (R138). -/
abbrev lastCallNumber : Nat := 999

/-- The largest repeat count of a call (R138). -/
abbrev repeatLimit : Nat := 99

/-- Balls a pair's outstanding list holds (R126). -/
abbrev outstandingRoom : Nat := 8

/-- Orders a module's buffer holds (11 TABLE 4). -/
abbrev orderRoom : Nat := 8

/-- Events of one poll answer at most (11 TABLE 6). -/
abbrev eventRoom : Nat := 8

/-- Consecutive unanswered polls at which a module is absent (R178). -/
abbrev absentAfter : Nat := 3

/-- The foul window, 4.0 s (R30). -/
abbrev foulWindow : Nat := 40

/-- The largest amount of money held or reported (R171). -/
abbrev moneyLimit : Nat := 9999999

/-- The largest price or minimum charge (R152, R160). -/
abbrev priceLimit : Nat := 99999

/-- The largest count of a slot's band seconds and credited downtime (R154, R167). -/
abbrev secondsLimit : Nat := 9999999

/-- The largest count of games started (R154). -/
abbrev gamesLimit : Nat := 9999

/-- Line items of a tab at most (R160). -/
abbrev itemRoom : Nat := 8

/-- Bands of a plan at most (R152). -/
abbrev bandRoom : Nat := 4

/-- The longest body of a request (11 TABLE 3). -/
abbrev bodyRoom : Nat := 120

/-- The start byte of a house link frame (11 TABLE 3). -/
abbrev houseStart : Byte := 0xA5#8

/-- The start byte of a machine link frame (11 TABLES 5 and 6). -/
abbrev machineStart : Byte := 0x5A#8

/-- A FREE VALUE (log entry 3). The request that the body bytes of a good frame of one request kind name, or `none` where
the body is not of the length that request kind takes (R176). The manual names each request's fields and gives no
byte layout of a body, so nothing is known of this function but its type. -/
opaque readBody : (requestKind : Nat) → (header : Header) → (body : List Byte) → Option Instr

end Sys2Proof.Config
end

