-- ==== Sys2Proof/WellFormed.lean ====
section
/-! DEFINITION. The commands that the links, the timers and the supply can bring to the part: a request's origin is one that
passes the header checks (R176), a module event or a timer names a lane or a pair of the house, and a list is no longer
than a body of 120 bytes can hold (11 TABLE 3). Everything else of a command may be out of range: refusing it is the
machine's own work. -/

namespace Sys2Proof

/-- The number lies in 1 to `high`. -/
def inOneTo (high number : Nat) : Bool := decide (1 ≤ number) && decide (number ≤ high)

/-- The origin number is in the range of its kind (11 TABLE 3). -/
def Origin.fits (o : Origin) : Bool :=
  match o with
  | .desk => true
  | .console p => inOneTo Config.pairs p
  | .station k => inOneTo Config.stations k

/-- The header of a request passes the header checks (R176). -/
def Header.fits (h : Header) : Bool := h.origin.fits

/-- A list is no longer than a body of the longest length can hold. -/
def listFits {α : Type} (l : List α) : Bool := decide (l.length ≤ Config.bodyRoom)

/-- A module event or a timer names a lane of the house. -/
def laneFits (n : Nat) : Bool := inOneTo Config.lanes n

/-- A module event or a timer names a pair of the house. -/
def pairFits (p : Nat) : Bool := inOneTo Config.pairs p

/-- The command is one that can come to the part. -/
def wellFormed (i : Instr) : Bool :=
  match i with
  | .laneStatus h _ | .setLaneOptions h _ _ | .deskHold h _ | .deskRelease h _ _ | .wake h _ | .laneOut h _
  | .laneIn h _ | .laneReset h _ | .move h _ _ | .manualEntry h _ _ _ | .setDiscrepancyMask h _ _ | .resolve h _ _
  | .readFaultContext h _ | .markAway h _ | .markBack h _ | .removeBowler h _ | .setSquad h _ _ _ | .endSquad h _
  | .readSquad h _ | .readBowler h _ | .startGame h _ | .pairPlay h _ _ | .endPairPlay h _ | .correctBall h _ _ _ _ _
  | .returnClear h _ | .setReturnTimeout h _ _ | .returnStatus h _ | .assist h _ | .deskCall h _ | .setDispatch h _
  | .nextCall h _ | .returnCall h _ | .clearCall h _ | .callList h | .clearPlan h _ | .readPlan h _
  | .openTab h _ _ _ _ _ | .attach h _ _ _ | .detach h _ | .close h _ | .settle h _ | .addItem h _ _ _ _
  | .removeItem h _ _ | .adjustAllowance h _ _ _ | .ackWarning h _ | .readTab h _ | .bill h _ | .attentionSummary h
  | .setClock h _ _ _ _ | .readClock h | .readRestart h | .restart h => h.fits
  | .clearFlags h _ kinds => h.fits && listFits kinds
  | .formSquad h _ bowlers _ _ => h.fits && listFits bowlers && bowlers.all fun e => listFits e.nameTag
  | .addBowler h _ entry => h.fits && listFits entry.nameTag
  | .setOrder h _ order => h.fits && listFits order
  | .setBowler h _ nameTag _ => h.fits && (nameTag.map listFits).getD true
  | .setClassMap h classes => h.fits && listFits classes
  | .setPlan h _ _ bands _ _ _ => h.fits && listFits bands
  | .restartStart | .headerRefused _ | .frameDropped | .frameGapTimeout | .linkClear | .poll | .pollAnswer _
  | .pollNoAnswer | .secondBoundary | .mainPowerLost | .sbokLow _ | .powerReturn | .resetAsserted | .resetReleased
  | .receiveByte _ => true
  | .ready n | .ballSeen n _ | .foul n | .deckRead n _ | .cycleDone n _ | .fault n _ | .readingDeadline n
  | .cycleDeadline n | .foulWindowExpiry n | .warmUpDeadline n => laneFits n
  | .present p _ | .ballBack p | .returnFault p | .returnDeadline p => pairFits p

end Sys2Proof
end

