-- ==== Sys2Proof/Machine/State.lean ====
section
/-! DEFINITION. The state of the ZL-4800 as plain data: every record of the manual (lanes, bowlers, squads, returns, the
Call Queue, tabs, rate plans), the two link ports, the House Clock and the Record Memory, and beside them the queue
of commands that wait. Records are grouped by the block that owns them (00_scope TABLE 2). -/

namespace Sys2Proof.Machine

open Sys2Proof

/-! ### Stops -/

/-- The reasons a step could stop with a fault. The manual gives the part none: every event and every request has an
effect, is ignored, or is answered. Nothing raises a fault, which is safe. -/
inductive Fault where
deriving DecidableEq, Repr

/-- The reasons a step could be refused. -/
inductive Refusal where
  /-- Raised by an arm of `exec` whose command has no meaning yet; safe. No arm of this model raises it. -/
  | notModelled (mnemonic : String)
deriving DecidableEq, Repr

/-! ### Results and reasons (11 TABLE 2) -/

/-- The reasons of a refusal (11 TABLE 2), in the order of their codes 1 to 12. -/
inductive Reason where
  | noRecord | notYours | wrongState | full | outOfRange | inFlight | inUse | clockUnset | noMachine | allowance
  | limit | badRequest
deriving DecidableEq, Repr

/-- The result of a request (11 TABLE 2), with the reason of a refusal. -/
inductive Verdict where
  | done
  | clamped
  | waking
  | refused (reason : Reason)
deriving DecidableEq, Repr

/-- The restart causes (R181). -/
inductive RestartCause where
  | supplyKept | cold | resetLine | request
deriving DecidableEq, Repr

/-! ### Dates and times -/

/-- A date and time of the House Clock to the second (R180). -/
structure Stamp where
  day : Nat
  time : Nat
deriving DecidableEq, Repr

/-- The House Clock (R180): the set mark, the date, the time of day in seconds, and the tenth-second timebase. `phase` is
how many tenths of the second in progress have passed. -/
structure Clock where
  isSet : Bool
  day : Nat
  time : Nat
  phase : Nat
  timebase : Nat
deriving DecidableEq, Repr

/-! ### The lane record (01 TABLE 1) -/

/-- The lane modes (01 TABLE 1). -/
inductive Mode where
  | out | dark | warming | live | held | closing
deriving DecidableEq, Repr

/-- A set of hold causes (01 TABLE 1): one mark for each cause, so that no cause appears twice. -/
structure CauseSet where
  attention : Bool
  call : Bool
  link : Bool
  restart : Bool
  desk : Bool
  allowance : Bool
deriving DecidableEq, Repr

/-- The empty set of hold causes. -/
def CauseSet.none : CauseSet := ⟨false, false, false, false, false, false⟩

/-- The deck states (R27). -/
inductive DeckState where
  | empty | ready | delivery | cycling | idle
deriving DecidableEq, Repr

/-- The cycle kinds (02 TABLE 5). -/
inductive CycleKind where
  | newRack | respot | sweep | resetMachine
deriving DecidableEq, Repr

/-- How a delivery is read (R28). -/
inductive Manner where
  | read | manual
deriving DecidableEq, Repr

/-- The delivery in flight (02 TABLE 2). -/
structure Delivery where
  bowler : Nat
  before : PinSet
  foul : Bool
  seen : Nat
  speed : Option Half
  manner : Manner
  deadline : Option Nat
  reRead : Bool
  frozen : Bool
deriving DecidableEq, Repr

/-- The cycle in flight (02 TABLE 6). -/
structure DeckCycle where
  kind : CycleKind
  commanded : Option PinSet
  deadline : Nat
  retry : Bool
deriving DecidableEq, Repr

/-- A raise record, and the fault context, which is one (06 TABLE 2). -/
structure RaiseRecord where
  kind : Discrepancy
  bowler : Option Nat
  frame : Option Nat
  ballIndex : Option Nat
  before : Option PinSet
  reading : Option PinSet
  cycleKind : Option CycleKind
  commanded : Option PinSet
  time : Option Stamp
  holdsDelivery : Bool
deriving DecidableEq, Repr

/-- The lane options (01 TABLE 2): timeouts of a reading and of a cycle in tenths of a second, of a warm-up in seconds. -/
structure LaneOptions where
  consoleWake : Bool
  pitCall : Bool
  consoleEdits : Bool
  consoleCorrections : Bool
  manualScoring : Bool
  readingTimeout : Nat
  cycleTimeout : Nat
  warmUpTimeout : Nat
deriving DecidableEq, Repr

/-- The lane record (01 TABLE 1). Flags, mask bits and raise records stand in the order of precedence
(`Discrepancy.place`). -/
structure LaneRecord where
  mode : Mode
  causes : CauseSet
  deck : DeckState
  standing : PinSet
  delivery : Option Delivery
  cycle : Option DeckCycle
  foulMark : Option Nat
  recoveryOwed : Bool
  warmUp : Option Nat
  flags : Vector Bool 6
  mask : Vector Bool 6
  context : Option RaiseRecord
  raises : Vector (Option RaiseRecord) 6
  repeatOwed : Bool
  options : LaneOptions
  tab : Option Nat
  squad : Option Nat
  capabilities : Capabilities
deriving DecidableEq, Repr

/-! ### The bowler record (03 TABLES 1 to 4) -/

/-- The ball record (03 TABLE 3). -/
structure BallRecord where
  pinfall : Nat
  before : PinSet
  after : PinSet
  foul : Bool
  speed : Option Half
deriving DecidableEq, Repr

/-- The kinds of an ended frame (03 TABLE 2). -/
inductive FrameKind where
  | strike | spare | openFrame
deriving DecidableEq, Repr

/-- The frame record (03 TABLE 2). -/
structure FrameRecord where
  balls : List BallRecord
  kind : Option FrameKind
  score : Option Nat
  running : Option Nat
deriving DecidableEq, Repr

/-- An entry of the pending-bonus list (03 TABLE 4). -/
structure BonusEntry where
  frame : Nat
  owed : Nat
  bonus : Nat
deriving DecidableEq, Repr

/-- The score sheet of one game: the ten frames, the pending-bonus list and the current frame, which R63 makes one
function of the balls recorded. -/
structure Sheet where
  frames : Vector FrameRecord 10
  bonuses : List BonusEntry
  current : Nat
deriving DecidableEq, Repr

/-- A bowler's part in the squad's play (R50). -/
inductive BowlerState where
  | waiting | up | done | absent
deriving DecidableEq, Repr

/-- Whether a bowler takes part in the squad's present or last game (03 TABLE 1). -/
inductive InGame where
  | no | yes | left
deriving DecidableEq, Repr

/-- An entry of the game totals list (R66). -/
structure GameTotal where
  total : Nat
  incomplete : Bool
deriving DecidableEq, Repr

/-- The bowler record while it is in use (03 TABLE 1). -/
structure BowlerRecord where
  squad : Nat
  nameTag : List Byte
  state : BowlerState
  inGame : InGame
  average : Nat
  gameNumber : Nat
  sheet : Sheet
  totals : List GameTotal
deriving DecidableEq, Repr

/-! ### The squad record (04 TABLE 1) -/

/-- Whether a squad is bound to its pair partner. -/
inductive PlayMode where
  | openPlay | pairPlay
deriving DecidableEq, Repr

/-- A squad's side in pair play (R89). -/
inductive Side where
  | a | b
deriving DecidableEq, Repr

/-- The squad states (04 TABLE 2). -/
inductive SquadState where
  | forming | playing | frameWait | gameDone | stopped
deriving DecidableEq, Repr

/-- The state a squad stopped at a start returns to: FORMING or GAME_DONE. -/
inductive ReturnState where
  | forming | gameDone
deriving DecidableEq, Repr

/-- The stop point of a STOPPED squad (04 TABLE 1). -/
inductive StopPoint where
  | atStart (back : ReturnState)
  | atFrame (frame : Nat)
deriving DecidableEq, Repr

/-- The squad record while it is in use (04 TABLE 1). The UP position is a place in the order, 0 its head. -/
structure SquadRecord where
  lane : Nat
  order : List Nat
  upPosition : Option Nat
  frame : Nat
  mode : PlayMode
  partner : Option Nat
  side : Option Side
  pairGame : Nat
  autoNext : Bool
  rule : HandicapRule
  state : SquadState
  stopPoint : Option StopPoint
deriving DecidableEq, Repr

/-! ### The return record of a pair (07 TABLE 1) -/

/-- An entry of the outstanding list (07 TABLE 1). -/
structure Outstanding where
  lane : Nat
  seen : Nat
deriving DecidableEq, Repr

/-- The causes of a return jam (R130). -/
inductive JamCause where
  | timeout | full | fault
deriving DecidableEq, Repr

/-- The return record of a pair (07 TABLE 1): the timeout is in whole seconds. The state is JAMMED exactly while `jam`, the
jam cause, is present, and NORMAL otherwise. -/
structure ReturnRecord where
  outstanding : List Outstanding
  timeout : Nat
  deadline : Option Nat
  jam : Option JamCause
deriving DecidableEq, Repr

/-! ### The Call Queue (chapter 8) -/

/-- The call record (08 TABLE 2). It is TAKEN exactly while `station` is present, WAITING otherwise; a RETURN_JAM is of its
pair's odd lane, and that kind is the pair mark. -/
structure CallRecord where
  number : Nat
  lane : Nat
  kind : CallKind
  callClass : Nat
  station : Option Nat
  repeats : Nat
  opened : Option Stamp
  faultCode : Option Half
deriving DecidableEq, Repr

/-- The unqueued set of a lane (R140): its kinds in kind order (`CallKind.place`), and the fault code a MACHINE_JAM in the
set keeps. -/
structure UnqueuedSet where
  kinds : Vector Bool 9
  faultCode : Option Half
deriving DecidableEq, Repr

/-- The state of the Call Queue (R138 to R144): the queue in age order, the unqueued sets of the lanes, the station
records, the class map, the dispatch settings and credits of classes 0 to 3, and the last number given. -/
structure CallQueue where
  queue : List CallRecord
  unqueued : Vector UnqueuedSet 48
  stations : Vector (List Nat) 4
  classMap : Vector Nat 9
  dispatch : Vector DispatchSetting 4
  credits : Vector Nat 4
  lastNumber : Nat
deriving DecidableEq, Repr

/-! ### Rate plans, tabs and bills (chapters 9 and 10) -/

/-- A defined rate plan (09 TABLE 1). -/
structure RatePlan where
  kind : PlanKind
  bands : List Band
  increment : Nat
  rounding : Rounding
  minimum : Nat
deriving DecidableEq, Repr

/-- The meter conditions (R166). -/
inductive MeterCondition where
  | metering | crediting | idle
deriving DecidableEq, Repr

/-- A meter slot (09 TABLE 4): a slot marked attached no holds no condition (R166). -/
structure MeterSlot where
  lane : Nat
  attached : Bool
  bandSeconds : List Nat
  downtime : Nat
  condition : Option MeterCondition
deriving DecidableEq, Repr

/-- A line item (R160). -/
structure LineItem where
  code : Nat
  quantity : Nat
  price : Nat
deriving DecidableEq, Repr

/-- A tab's warning (R161). -/
inductive Warning where
  | none | set | acknowledged
deriving DecidableEq, Repr

/-- A band line of a bill (10 TABLE 2). -/
structure BandLine where
  start : Nat
  price : Nat
  seconds : Nat
  units : Nat
  roundedUp : Bool
  charge : Nat
  held : Bool
deriving DecidableEq, Repr

/-- A slot line of a bill (10 TABLE 2). -/
structure SlotLine where
  lane : Nat
  attached : Bool
  downtime : Nat
  bands : List BandLine
deriving DecidableEq, Repr

/-- An item line of a bill (10 TABLE 2). -/
structure ItemLine where
  code : Nat
  quantity : Nat
  price : Nat
  amount : Nat
deriving DecidableEq, Repr

/-- A sum of money with its held mark (R171). -/
structure HeldSum where
  amount : Nat
  held : Bool
deriving DecidableEq, Repr

/-- The bill (10 TABLE 2). -/
structure Bill where
  tab : Nat
  plan : Nat
  computedAt : Option Stamp
  gamesStarted : Nat
  gameCharges : HeldSum
  slots : List SlotLine
  beforeMinimum : HeldSum
  minimumApplied : Bool
  timeCharge : Nat
  items : List ItemLine
  itemsTotal : HeldSum
  total : HeldSum
deriving DecidableEq, Repr

/-- The states of a tab record in use (09 TABLE 5). -/
inductive TabState where
  | opened | due
deriving DecidableEq, Repr

/-- The tab record (09 TABLE 4), with the game charges held mark of R169. -/
structure TabRecord where
  state : TabState
  plan : Nat
  slots : List MeterSlot
  gamesStarted : Nat
  lastStart : Nat
  gameCharges : HeldSum
  allowance : Allowance
  lead : Nat
  warning : Warning
  runOut : Bool
  items : List LineItem
  bill : Option Bill
deriving DecidableEq, Repr

/-! ### The two link ports (chapter 11) -/

/-- A machine order (11 TABLE 7): what it orders, and for a cycle its kind and commanded set. -/
inductive OrderKind where
  | powerOn | powerOff
  | cycle (kind : CycleKind) (pins : PinSet)
  | reRead | resetMachine
deriving DecidableEq, Repr

/-- A machine order as the buffer of a module holds it: the lane it is for, even or odd, and what it orders. -/
structure MachineOrder where
  even : Bool
  kind : OrderKind
deriving DecidableEq, Repr

/-- The module slot (11 TABLE 4). `overflowed` is the model's own: it is set while an order of the step in progress has
found the buffer full, and is no before and after every step (log entry 8). -/
structure ModuleSlot where
  present : Bool
  unanswered : Nat
  sequence : Bool
  orders : List MachineOrder
  capabilities : Capabilities
  overflowed : Bool
deriving DecidableEq, Repr

/-- The poll that is owed an answer (R178): the module polled, the sequence it carried, and how many orders of the
head of the buffer it carried. -/
structure PollOut where
  pair : Nat
  sequence : Bool
  carried : Nat
deriving DecidableEq, Repr

/-- The Machine Link Port (section 11.3): the module slots, the module to be polled next, the poll owed an answer and
the bytes of the latest poll frame. -/
structure MachinePort where
  slots : Vector ModuleSlot 24
  turn : Nat
  pollOut : Option PollOut
  lastFrame : List Byte
deriving DecidableEq, Repr

/-- The states of the receive framing of the house link (R175). -/
inductive Framing where
  | hunt | header | body
deriving DecidableEq, Repr

/-- The attention summary (R177): four lists in ascending number with no number twice. -/
structure Summary where
  attention : List Nat
  restart : List Nat
  warnings : List Nat
  missing : List Nat
deriving DecidableEq, Repr

/-- The answer body of LANE STATUS (R2). -/
structure LaneStatusBody where
  mode : Mode
  causes : CauseSet
  deck : DeckState
  standing : PinSet
  deliveryInFlight : Bool
  frozen : Bool
  recoveryOwed : Bool
  cycleKind : Option CycleKind
  flags : Vector Bool 6
  mask : Vector Bool 6
  options : LaneOptions
  tab : Option Nat
  squad : Option Nat
  capabilities : Capabilities
deriving DecidableEq, Repr

/-- One bowler of a READ SQUAD answer (R81). -/
structure BowlerSummary where
  number : Nat
  nameTag : List Byte
  state : BowlerState
  inGame : InGame
  current : Nat
  running : Option Nat
deriving DecidableEq, Repr

/-- The answer body of READ BOWLER (R69): the record, its handicap, and its running totals and game totals with it. -/
structure BowlerBody where
  record : BowlerRecord
  handicap : Nat
  runningWithHandicap : List (Option Nat)
  totalsWithHandicap : List Nat
deriving DecidableEq, Repr

/-- One frame as CORRECT BALL answers it (R108). -/
structure FrameSummary where
  kind : Option FrameKind
  score : Option Nat
  running : Option Nat
deriving DecidableEq, Repr

/-- The answer body of RETURN STATUS (R135): entries as (lane, age in tenths of a second). -/
structure ReturnBody where
  jam : Option JamCause
  timeout : Nat
  count : Nat
  entries : List (Nat × Nat)
  remaining : Option Nat
deriving DecidableEq, Repr

/-- The answer body of CALL LIST (R150). -/
structure CallListBody where
  calls : List CallRecord
  unqueued : List (Nat × List CallKind × Option Half)
  stations : List (List Nat)
  classMap : Vector Nat 9
  dispatch : List (DispatchSetting × Option Nat)
deriving DecidableEq, Repr

/-- The answer body of READ TAB (R164): the record, each slot's metered total, each band's start minute and price, and,
for a DUE tab, each slot's seconds as its frozen bill holds them. -/
structure TabBody where
  number : Nat
  record : TabRecord
  meteredTotals : List Nat
  bands : List Band
  bandSeconds : List (List Nat)
deriving DecidableEq, Repr

/-- The body of an answer, by the fields its rule names. The manual lays none of them out in bytes. -/
inductive Body where
  | empty
  | laneStatus (body : LaneStatusBody)
  | faultContext (flags : Vector Bool 6) (mask : Vector Bool 6) (context : Option RaiseRecord)
      (raises : List RaiseRecord)
  | squadFormed (squad : Nat) (bowlers : List Nat)
  | bowlerAdded (bowler : Nat)
  | squad (number : Nat) (record : SquadRecord) (bowlers : List BowlerSummary)
  | bowler (body : BowlerBody)
  | corrected (frames : List FrameSummary) (current : Nat) (state : BowlerState) (entry : Option GameTotal)
  | returns (body : ReturnBody)
  | callOpened (number : Nat)
  | callRepeated (number : Nat)
  | callUnqueued
  | nextCall (call : Option CallRecord)
  | calls (body : CallListBody)
  | plan (number : Nat) (plan : Option RatePlan)
  | tabOpened (tab : Nat)
  | item (item : LineItem)
  | allowance (allowance : Allowance) (warning : Warning) (runOut : Bool)
  | tab (body : TabBody)
  | bill (bill : Bill)
  | summary (summary : Summary)
  | clock (isSet : Bool) (stamp : Option Stamp)
  | restart (cause : RestartCause) (previous : Option RestartCause) (sbokGood : Bool) (clockSet : Bool)
deriving DecidableEq, Repr

/-- An answer of the house link (R176): the sequence byte of its request, the result and the body. -/
structure Answer where
  sequence : Byte
  result : Verdict
  body : Body
deriving DecidableEq, Repr

/-- The House Link Port: the framing with the bytes of the frame gathered so far, the answers given (the model's record
of the transmit line, oldest first), the attention summary and the ATTN line. -/
structure HousePort where
  framing : Framing
  gathered : List Byte
  answers : List Answer
  summary : Summary
  attn : Bool
deriving DecidableEq, Repr

/-! ### The Record Memory and the supply (section 11.5) -/

/-- What decides a start (R181, R182): the latest and previous restart causes, the validity mark, the two supplies and the
RESET line as they stand, whether a start waits for RESET to be released, and whether the warm start that follows the
answer to RESTART is still to be made. -/
structure RecordMemory where
  cause : RestartCause
  previous : Option RestartCause
  valid : Bool
  mainPower : Bool
  sbokGood : Bool
  resetHeld : Bool
  startWaits : Bool
  restartOwed : Bool
deriving DecidableEq, Repr

/-! ### The whole machine -/

/-- The records of the house, by the block that owns them (00_scope TABLE 2). -/
structure House where
  lanes : Vector LaneRecord 48
  bowlers : Vector (Option BowlerRecord) 384
  squads : Vector (Option SquadRecord) 48
  returns : Vector ReturnRecord 24
  calls : CallQueue
  tabs : Vector (Option TabRecord) 64
  plans : Vector (Option RatePlan) 8
  machine : MachinePort
  port : HousePort
  clock : Clock
  memory : RecordMemory
deriving DecidableEq, Repr

/-- The state of the model: the records of the house, and the commands that wait, first in, first out. -/
structure State where
  house : House
  pending : List Instr
deriving DecidableEq, Repr

/-! ### The state after a cold start -/

/-- No capability: a slot's and a lane's capabilities after a cold start (R25, R181). -/
def noCapabilities : Capabilities := ⟨false, false, false⟩

/-- The cold-start values of the lane options (01 TABLE 2). -/
def LaneOptions.cold : LaneOptions :=
  { consoleWake := false, pitCall := true, consoleEdits := false, consoleCorrections := false, manualScoring := false,
    readingTimeout := 60, cycleTimeout := 120, warmUpTimeout := 90 }

/-- A lane record after a cold start (R25, R49, R125). -/
def LaneRecord.cold : LaneRecord :=
  { mode := .dark, causes := .none, deck := .empty, standing := noPins, delivery := none, cycle := none,
    foulMark := none, recoveryOwed := false, warmUp := none, flags := Vector.replicate 6 false,
    mask := Vector.replicate 6 true, context := none, raises := Vector.replicate 6 none, repeatOwed := false,
    options := .cold, tab := none, squad := none, capabilities := noCapabilities }

/-- A return record after a cold start (R136). -/
def ReturnRecord.cold : ReturnRecord :=
  { outstanding := [], timeout := 40, deadline := none, jam := none }

/-- An empty unqueued set (R151). -/
def UnqueuedSet.none : UnqueuedSet := ⟨Vector.replicate 9 false, Option.none⟩

/-- The default classes of the nine kinds (08 TABLE 1), in kind order. -/
def defaultClasses : Vector Nat 9 := #v[3, 3, 2, 2, 2, 1, 1, 1, 0]

/-- The dispatch settings after a cold start (R144), classes 0 to 3. -/
def defaultDispatch : Vector DispatchSetting 4 := #v[.ratio 1, .ratio 2, .ratio 4, .strict]

/-- The Call Queue after a cold start (R151). -/
def CallQueue.cold : CallQueue :=
  { queue := [], unqueued := Vector.replicate 48 .none, stations := Vector.replicate 4 [], classMap := defaultClasses,
    dispatch := defaultDispatch, credits := Vector.replicate 4 0, lastNumber := 0 }

/-- A module slot after a cold start (R181). -/
def ModuleSlot.cold : ModuleSlot :=
  { present := false, unanswered := 0, sequence := false, orders := [], capabilities := noCapabilities, overflowed := false }

/-- The Machine Link Port after a cold start (R181): polling begins at module 1. -/
def MachinePort.cold : MachinePort :=
  { slots := Vector.replicate 24 .cold, turn := 1, pollOut := none, lastFrame := [] }

/-- The empty attention summary (R177). -/
def Summary.none : Summary := ⟨[], [], [], []⟩

/-- The House Link Port after a cold start (R175, R177): the framing in HUNT, the summary empty and ATTN released. -/
def HousePort.cold : HousePort :=
  { framing := .hunt, gathered := [], answers := [], summary := .none, attn := false }

/-- The House Clock after a cold start: unset (R180). The date and time of an unset clock, and the point where the
timebase begins, are the model's (log entry 2). -/
def Clock.cold : Clock := { isSet := false, day := 0, time := 0, phase := 0, timebase := 0 }

/-- The Record Memory after a cold start (R181, R182): main power present, SBOK good and RESET released (log entry 2). -/
def RecordMemory.cold : RecordMemory :=
  { cause := .cold, previous := none, valid := true, mainPower := true, sbokGood := true, resetHeld := false,
    startWaits := false, restartOwed := false }

/-- The house after a cold start: each record as its chapter gives it (R25, R49, R74, R97, R125, R136, R151, R165, R174,
R180 to R182). -/
def House.cold : House :=
  { lanes := Vector.replicate 48 .cold, bowlers := Vector.replicate 384 none, squads := Vector.replicate 48 none,
    returns := Vector.replicate 24 .cold, calls := .cold, tabs := Vector.replicate 64 none,
    plans := Vector.replicate 8 none, machine := .cold, port := .cold, clock := .cold, memory := .cold }

/-- The machine right after reset: a cold start has completed, and no command waits. -/
def State.reset : State := { house := .cold, pending := [] }

end Sys2Proof.Machine
end

