-- ==== Sys2Proof/Machine/Ops.lean ====
section
/-! DEFINITION. The named operations over the records: reading and writing a numbered record, pin sets, hold causes, the
clock, giving a machine order, reporting a lane's mode to the Tab Unit, adding and removing a hold cause, ordering a
cycle and starting deck recovery. Every meaning of a command is built from these and from the operations of the
owning units. -/

namespace Sys2Proof.Machine

open Sys2Proof

/-! ### Numbered records -/

/-- The record numbered `k` of a bank numbered from 1, or `d` where there is none of that number. -/
def numGet {α : Type} {n : Nat} (bank : Vector α n) (d : α) (k : Nat) : α :=
  if inside : 1 ≤ k ∧ k ≤ n then bank[k - 1]'(by omega) else d

/-- The bank with the record numbered `k` replaced; a number outside the bank changes nothing. -/
def numSet {α : Type} {n : Nat} (bank : Vector α n) (k : Nat) (x : α) : Vector α n :=
  if inside : 1 ≤ k ∧ k ≤ n then bank.set (k - 1) x (by omega) else bank

/-- The lane record of lane `n`. -/
def House.lane (h : House) (n : Nat) : LaneRecord := numGet h.lanes .cold n

/-- The house with the lane record of lane `n` replaced. -/
def House.setLane (h : House) (n : Nat) (l : LaneRecord) : House := { h with lanes := numSet h.lanes n l }

/-- The bowler record `k`, absent while it is free or where there is no such number (R50). -/
def House.bowler (h : House) (k : Nat) : Option BowlerRecord := numGet h.bowlers none k

/-- The house with bowler record `k` replaced. -/
def House.setBowler (h : House) (k : Nat) (b : Option BowlerRecord) : House :=
  { h with bowlers := numSet h.bowlers k b }

/-- The squad record `q`, absent while it is free or where there is no such number (R76). -/
def House.squad (h : House) (q : Nat) : Option SquadRecord := numGet h.squads none q

/-- The house with squad record `q` replaced. -/
def House.setSquad (h : House) (q : Nat) (r : Option SquadRecord) : House :=
  { h with squads := numSet h.squads q r }

/-- The tab record `t`, absent while it is free or where there is no such number (R154). -/
def House.tab (h : House) (t : Nat) : Option TabRecord := numGet h.tabs none t

/-- The house with tab record `t` replaced. -/
def House.setTab (h : House) (t : Nat) (r : Option TabRecord) : House := { h with tabs := numSet h.tabs t r }

/-- The rate plan `p`, numbered from 0, absent while undefined or where there is no such number (R152). -/
def House.plan (h : House) (p : Nat) : Option RatePlan := numGet h.plans none (p + 1)

/-- The house with rate plan `p` replaced. -/
def House.setPlan (h : House) (p : Nat) (r : Option RatePlan) : House := { h with plans := numSet h.plans (p + 1) r }

/-- The return record of pair `p` (R126). -/
def House.ret (h : House) (p : Nat) : ReturnRecord := numGet h.returns .cold p

/-- The house with the return record of pair `p` replaced. -/
def House.setRet (h : House) (p : Nat) (r : ReturnRecord) : House := { h with returns := numSet h.returns p r }

/-- The module slot of pair `p` (11 TABLE 4). A pair outside 1 to 24 has an absent module. -/
def House.slot (h : House) (p : Nat) : ModuleSlot := numGet h.machine.slots .cold p

/-- The house with the module slot of pair `p` replaced. -/
def House.setSlot (h : House) (p : Nat) (m : ModuleSlot) : House :=
  { h with machine := { h.machine with slots := numSet h.machine.slots p m } }

/-- The unqueued set of lane `n` (R140). -/
def House.unqueued (h : House) (n : Nat) : UnqueuedSet := numGet h.calls.unqueued .none n

/-- The house with the unqueued set of lane `n` replaced. -/
def House.setUnqueued (h : House) (n : Nat) (u : UnqueuedSet) : House :=
  { h with calls := { h.calls with unqueued := numSet h.calls.unqueued n u } }

/-- The numbers of the lanes, of the pairs, of the tabs and of the other banks, in ascending order. -/
def numbers (n : Nat) : List Nat := (List.range n).map (· + 1)

/-! ### Lanes and pairs (00_scope, Lanes, pairs and pins) -/

/-- A lane number of the house. -/
def isLane (n : Nat) : Bool := decide (1 ≤ n) && decide (n ≤ Config.lanes)

/-- A pair number of the house. -/
def isPair (p : Nat) : Bool := decide (1 ≤ p) && decide (p ≤ Config.pairs)

/-- The pair of lane `n`. -/
def pairOf (n : Nat) : Nat := (n + 1) / 2

/-- The odd lane of pair `p`. -/
def oddLane (p : Nat) : Nat := 2 * p - 1

/-- The even lane of pair `p`. -/
def evenLane (p : Nat) : Nat := 2 * p

/-- The two lanes of pair `p`, the odd one first. -/
def lanesOf (p : Nat) : List Nat := [oddLane p, evenLane p]

/-- The other lane of lane `n`'s pair. -/
def otherLane (n : Nat) : Nat := if n % 2 = 1 then n + 1 else n - 1

/-! ### Pin sets -/

/-- Every pin of `a` is in `b`. -/
def pinsWithin (a b : PinSet) : Bool := decide (a &&& ~~~b = noPins)

/-- The pins of `a` that are not in `b`. -/
def pinsOnlyIn (a b : PinSet) : PinSet := a &&& ~~~b

/-- The count of a pin set. -/
def pinCount (a : PinSet) : Nat := ((List.range 10).filter fun k => a.getLsbD k).length

/-! ### Sets of hold causes -/

/-- Whether a cause is in the set. -/
def CauseSet.has (c : CauseSet) : HoldCause → Bool
  | .attention => c.attention
  | .call => c.call
  | .link => c.link
  | .restart => c.restart
  | .desk => c.desk
  | .allowance => c.allowance

/-- The set with a cause put in or taken out. -/
def CauseSet.put (c : CauseSet) (cause : HoldCause) (present : Bool) : CauseSet :=
  match cause with
  | .attention => { c with attention := present }
  | .call => { c with call := present }
  | .link => { c with link := present }
  | .restart => { c with restart := present }
  | .desk => { c with desk := present }
  | .allowance => { c with allowance := present }

/-- The set is empty. -/
def CauseSet.isNone (c : CauseSet) : Bool :=
  !(c.attention || c.call || c.link || c.restart || c.desk || c.allowance)

/-- A lane that is playing: LIVE or HELD. -/
def LaneRecord.playing (l : LaneRecord) : Bool := decide (l.mode = .live) || decide (l.mode = .held)

/-- A lane whose hold-cause set is kept: WARMING, LIVE or HELD (R4). -/
def LaneRecord.keepsCauses (l : LaneRecord) : Bool := decide (l.mode = .warming) || l.playing

/-- A delivery or a cycle is in flight: the deck is DELIVERY or CYCLING (R27). -/
def LaneRecord.busy (l : LaneRecord) : Bool := l.delivery.isSome || l.cycle.isSome

/-- The delivery in flight is frozen (R119). -/
def LaneRecord.frozen (l : LaneRecord) : Bool :=
  match l.delivery with
  | some d => d.frozen
  | none => false

/-! ### The clock -/

/-- The present timebase value, in tenths of a second (R27). -/
def House.now (h : House) : Nat := h.clock.timebase

/-- The House Clock's date and time, absent while the clock is unset (R180). -/
def House.stamp (h : House) : Option Stamp :=
  if h.clock.isSet then some { day := h.clock.day, time := h.clock.time } else none

/-- The minute of the day at a time of day in seconds (R152). -/
def minuteOf (time : Nat) : Nat := time / 60

/-- A deadline that is present and has been reached. -/
def House.reached (h : House) (deadline : Option Nat) : Bool :=
  match deadline with
  | some d => decide (d ≤ h.now)
  | none => false

/-! ### Reports to the Tab Unit (R7, R166) -/

/-- The meter condition that a lane's mode and hold causes give (R166). -/
def meterCondition (mode : Mode) (causes : CauseSet) : MeterCondition :=
  match mode with
  | .live => .metering
  | .held => if causes.call || causes.link || causes.restart then .crediting else .idle
  | _ => .idle

/-- The report of R7: the slot of lane `n` in the tab its tab field names takes the condition of the lane's mode and
hold-cause set as they stand. A lane with no tab makes no report. -/
def House.report (h : House) (n : Nat) : House :=
  match (h.lane n).tab with
  | none => h
  | some t =>
    match h.tab t with
    | none => h
    | some r =>
      let condition := meterCondition (h.lane n).mode (h.lane n).causes
      h.setTab t (some { r with slots := r.slots.map fun m =>
        if m.lane = n ∧ m.attached = true then { m with condition := some condition } else m })

/-! ### Machine orders (R178, Giving an order) -/

/-- Whether the module of lane `n`'s pair is present. -/
def House.modulePresent (h : House) (n : Nat) : Bool := (h.slot (pairOf n)).present

/-- The Lane Unit gives an order for lane `n`: it is appended to the buffer of the pair's present module. An order that
finds the buffer full is not appended; the absence it brings is declared at the end of the step (log entry 8). -/
def House.giveOrder (h : House) (n : Nat) (o : OrderKind) : House :=
  let m := h.slot (pairOf n)
  if !m.present then h
  else if m.orders.length < Config.orderRoom then
    h.setSlot (pairOf n) { m with orders := m.orders ++ [{ even := decide (n % 2 = 0), kind := o }] }
  else h.setSlot (pairOf n) { m with overflowed := true }

/-! ### Adding and removing a hold cause (R5, R6) -/

/-- The fault context with its holds delivery mark set to no (R118). -/
def releaseContext (c : Option RaiseRecord) : Option RaiseRecord :=
  c.map fun r => { r with holdsDelivery := false }

/-- The lane record with the work in flight abandoned, as LINK and RESTART abandon it (R5, R47): delivery, cycle, foul
mark, recovery owed and repeat owed are dropped, and the deck is left EMPTY. -/
def LaneRecord.abandon (l : LaneRecord) : LaneRecord :=
  { l with delivery := none, cycle := none, foulMark := none, recoveryOwed := false, repeatOwed := false,
           deck := .empty, standing := noPins, context := releaseContext l.context }

/-- The causes that abandon work in flight (R5). -/
def abandonsWork (c : HoldCause) : Bool := decide (c = .link) || decide (c = .restart)

/-- The lane record after an owner adds a cause (R4, R5). -/
def LaneRecord.addCause (l : LaneRecord) (c : HoldCause) : LaneRecord :=
  if !l.keepsCauses || l.causes.has c then l
  else
    let l := { l with causes := l.causes.put c true, mode := if l.mode = .live then .held else l.mode }
    if abandonsWork c then l.abandon else l

/-- An owner adds a hold cause to lane `n`, and the change is reported (R5, R7). -/
def House.addCause (h : House) (n : Nat) (c : HoldCause) : House :=
  (h.setLane n ((h.lane n).addCause c)).report n

/-- The lane record after an owner removes a cause (R6): a HELD lane with none left goes to LIVE. -/
def LaneRecord.removeCause (l : LaneRecord) (c : HoldCause) : LaneRecord :=
  if !l.keepsCauses then l
  else
    let causes := l.causes.put c false
    { l with causes := causes, mode := if l.mode = .held ∧ causes.isNone = true then .live else l.mode }

/-- An owner removes a hold cause from lane `n`, and the change is reported (R6, R7). -/
def House.removeCause (h : House) (n : Nat) (c : HoldCause) : House :=
  (h.setLane n ((h.lane n).removeCause c)).report n

/-! ### Cycles (R37, R38) and deck recovery (R44) -/

/-- Step 1 of R38: a RESPOT of the full rack is a NEW_RACK, and a RESPOT of the empty set a SWEEP. -/
def normalCycle (kind : CycleKind) (pins : PinSet) : CycleKind :=
  if kind = .respot ∧ pins = fullRack then .newRack
  else if kind = .respot ∧ pins = noPins then .sweep
  else kind

/-- The set a cycle commands (02 TABLE 5), absent for RESET_MACHINE. -/
def commandedSet (kind : CycleKind) (pins : PinSet) : Option PinSet :=
  match kind with
  | .newRack => some fullRack
  | .respot => some pins
  | .sweep => some noPins
  | .resetMachine => none

/-- The order that carries a cycle (R38): CYCLE(kind, set), or RESET_MACHINE. -/
def cycleOrder (kind : CycleKind) (pins : PinSet) : OrderKind :=
  match commandedSet kind pins with
  | some commanded => .cycle kind commanded
  | none => .resetMachine

/-- The Lane Unit orders a cycle on lane `n` (R38). `retry` is the retry used mark of the new record (R113). -/
def House.orderCycle (h : House) (n : Nat) (kind : CycleKind) (pins : PinSet) (retry : Bool := false) : House :=
  let l := h.lane n
  let kind := normalCycle kind pins
  let h := h.setLane n { l with
    cycle := some { kind := kind, commanded := commandedSet kind pins, deadline := h.now + l.options.cycleTimeout,
                    retry := retry },
    deck := .cycling }
  h.giveOrder n (cycleOrder kind pins)

/-- RESET_MACHINE is ordered as the first step of a recovery (R44): any cycle record is removed without waiting for it,
the standing set is {}, and the foul mark pending, the recovery owed mark and the repeat owed mark are dropped. -/
def House.beginRecovery (h : House) (n : Nat) : House :=
  (h.setLane n { h.lane n with cycle := none, standing := noPins, foulMark := none, recoveryOwed := false,
                               repeatOwed := false }).orderCycle n .resetMachine noPins

/-- A RESET_MACHINE of a recovery is in flight. -/
def LaneRecord.recovering (l : LaneRecord) : Bool :=
  match l.cycle with
  | some c => decide (c.kind = .resetMachine)
  | none => false

/-- Deck recovery is started on lane `n` (R44). It is the recovery of a LIVE or HELD lane. -/
def House.startRecovery (h : House) (n : Nat) : House :=
  let l := h.lane n
  if !l.playing then h
  else if l.causes.link || l.causes.restart then h
  else if l.recovering then h
  else if l.delivery.isSome then h.setLane n { l with recoveryOwed := true }
  else h.beginRecovery n

/-- The lane record with its delivery dropped unscored: the deck is left EMPTY (R111, R122). -/
def LaneRecord.dropDelivery (l : LaneRecord) : LaneRecord :=
  { l with delivery := none, deck := .empty, standing := noPins }

/-- The lane record with its cycle ended without completing: the deck is EMPTY with standing set {}, and the repeat owed
mark is cleared (R41, R42, R115). -/
def LaneRecord.dropCycle (l : LaneRecord) : LaneRecord :=
  { l with cycle := none, repeatOwed := false, deck := .empty, standing := noPins }

/-! ### Whether the part runs (R181) -/

/-- The part runs: main power is present and RESET is not held. -/
def House.runs (h : House) : Bool := h.memory.mainPower && !h.memory.resetHeld

/-- The part takes frames: it runs, and no warm start waits for the answer to RESTART (R181). -/
def House.takesFrames (h : House) : Bool := h.runs && !h.memory.restartOwed

/-! ### Outcomes -/

/-- What a command answers: the next state, a fault or a refusal. -/
abbrev Result := Host.Outcome State Fault Refusal

/-- The state with its house replaced; the queue of waiting commands stays. -/
def State.withHouse (s : State) (h : House) : State := { s with house := h }

/-- What an owning unit gives back for a request: the house after it, the result and the answer body (R176). -/
structure Reply where
  house : House
  verdict : Verdict
  body : Body
deriving DecidableEq, Repr

/-- The request is refused, and nothing is changed. -/
def refuse (h : House) (reason : Reason) : Reply := ⟨h, .refused reason, .empty⟩

/-- The request is answered DONE with no body. -/
def done (h : House) : Reply := ⟨h, .done, .empty⟩

/-- The request is answered DONE with a body. -/
def doneWith (h : House) (body : Body) : Reply := ⟨h, .done, body⟩

/-- The request is answered CLAMPED where a value was clamped, and DONE otherwise. -/
def doneOrClamped (clamped : Bool) (h : House) (body : Body := .empty) : Reply :=
  ⟨h, if clamped then .clamped else .done, body⟩

end Sys2Proof.Machine
end

