-- ==== Sys2Proof/Machine/Operands.lean ====
section
/-! DEFINITION. The operand forms of the requests: the ranges of an origin (11 TABLE 3), the access rules an owning unit
applies to an origin, and the clamping of values to their ranges (CLAMPED, 11 TABLE 2). -/

namespace Sys2Proof.Machine

open Sys2Proof

/-- The origin number is in the range of its kind (11 TABLE 3, R176). -/
def originInRange (o : Origin) : Bool :=
  match o with
  | .desk => true
  | .console p => isPair p
  | .station k => decide (1 ≤ k) && decide (k ≤ Config.stations)

/-- The origin is the desk. -/
def isDesk (o : Origin) : Bool := decide (o = .desk)

/-- The origin is a console. -/
def isConsole (o : Origin) : Bool :=
  match o with
  | .console _ => true
  | _ => false

/-- The origin is the console of pair `p`. -/
def isConsoleOf (p : Nat) (o : Origin) : Bool := decide (o = .console p)

/-- The origin is the desk or the console of lane `n`'s pair. -/
def deskOrOwnConsole (n : Nat) (o : Origin) : Bool := isDesk o || isConsoleOf (pairOf n) o

/-- The desk, the console of lane `n`'s pair, and any station: the reads of lane status (R2, R124, R135). -/
def mayReadLane (n : Nat) (o : Origin) : Bool :=
  match o with
  | .desk => true
  | .console p => decide (p = pairOf n)
  | .station _ => true

/-- The access rule of the squad edits on the lane that carries the squad (section 4.2): the desk, and the console of
the lane's pair while that lane's console edits option is on. -/
def mayEditSquad (h : House) (n : Nat) (o : Origin) : Bool :=
  isDesk o || (isConsoleOf (pairOf n) o && (h.lane n).options.consoleEdits)

/-- A console of the pair whose lane is an attached slot of the tab (R164, R172). -/
def consoleHasSlot (r : TabRecord) (o : Origin) : Bool :=
  r.slots.any fun m => m.attached && isConsoleOf (pairOf m.lane) o

/-- A name tag of 0 to 12 characters, each of codes 32 to 126 (03 TABLE 1). -/
def nameTagFits (tag : List Byte) : Bool :=
  decide (tag.length ≤ 12) && tag.all fun c => decide (32 ≤ c.toNat) && decide (c.toNat ≤ 126)

/-- The nearer end of a range for a value outside it. -/
def clamp (low high value : Nat) : Nat := if value < low then low else if high < value then high else value

/-- Whether clamping changes the value. -/
def wasClamped (low high value : Nat) : Bool := decide (clamp low high value ≠ value)

/-- The value of an optional operand, clamped to its range, or the value held. -/
def clampOr (low high held : Nat) (given : Option Nat) : Nat :=
  match given with
  | some v => clamp low high v
  | none => held

/-- Whether clamping changes an optional operand. -/
def optionClamped (low high : Nat) (given : Option Nat) : Bool :=
  match given with
  | some v => wasClamped low high v
  | none => false

/-- A handicap rule clamped to its ranges (04 TABLE 1). -/
def clampRule (r : HandicapRule) : HandicapRule :=
  { basis := clamp 0 300 r.basis, percent := clamp 0 100 r.percent, cap := clamp 0 300 r.cap }

/-- An allowance clamped to its range (R162): GAMES n to at least the games started and 1, and at most 9,999; MINUTES n
to 1 to 1,440. -/
def clampAllowance (gamesStarted : Nat) (a : Allowance) : Allowance :=
  match a with
  | .unlimited => .unlimited
  | .games n => .games (clamp (max gamesStarted 1) Config.gamesLimit n)
  | .minutes n => .minutes (clamp 1 1440 n)

/-- The largest warning lead, in minutes (R162). -/
def leadLimit : Nat := 60

end Sys2Proof.Machine
end

