-- ==== Sys2Proof/Machine/CallQueue.lean ====
section
/-! DEFINITION. The Call Queue's own operations (chapter 8): raising a call, giving a call its number, entry from the
unqueued sets, blocking presence and the reports it makes to the Lane Unit, and retirement. -/

namespace Sys2Proof.Machine

open Sys2Proof

/-! ### Kinds (R137) -/

/-- The nine call kinds in kind order (08 TABLE 1). -/
def callKinds : List CallKind :=
  [.machineJam, .cycleTimeout, .setFail, .readerFail, .returnJam, .wakeFail, .ballInPit, .assist, .desk]

/-- Whether a kind is blocking (08 TABLE 1). -/
def isBlocking (k : CallKind) : Bool :=
  match k with
  | .machineJam | .cycleTimeout | .setFail | .readerFail | .returnJam => true
  | .wakeFail | .ballInPit | .assist | .desk => false

/-- The lane a kind is keyed on: a RETURN_JAM of either lane of a pair is kept for the pair's odd lane (R130, R140). -/
def callLane (n : Nat) (k : CallKind) : Nat := if k = .returnJam then oddLane (pairOf n) else n

/-- The lanes a kind of lane `n` concerns: both lanes of the pair for RETURN_JAM, the lane itself otherwise (R141). -/
def lanesConcerned (n : Nat) (k : CallKind) : List Nat := if k = .returnJam then lanesOf (pairOf n) else [n]

/-- A call is WAITING while no station holds it (08 TABLE 2). -/
def CallRecord.waiting (c : CallRecord) : Bool := c.station.isNone

/-- The kind is in the unqueued set. -/
def UnqueuedSet.has (u : UnqueuedSet) (k : CallKind) : Bool := u.kinds[k.place]

/-- The unqueued set with a kind joined to it; a MACHINE_JAM keeps the fault code of its raise (R140). -/
def UnqueuedSet.join (u : UnqueuedSet) (k : CallKind) (code : Option Half) : UnqueuedSet :=
  { kinds := u.kinds.set k.place true, faultCode := if k = .machineJam then code else u.faultCode }

/-- The unqueued set with a kind removed. -/
def UnqueuedSet.leave (u : UnqueuedSet) (k : CallKind) : UnqueuedSet :=
  { kinds := u.kinds.set k.place false, faultCode := if k = .machineJam then Option.none else u.faultCode }

/-- The first kind of the set in kind order. -/
def UnqueuedSet.first (u : UnqueuedSet) : Option CallKind := callKinds.find? u.has

/-- The call of a lane and kind in the queue. -/
def CallQueue.find (q : CallQueue) (n : Nat) (k : CallKind) : Option CallRecord :=
  q.queue.find? fun c => decide (c.lane = n) && decide (c.kind = k)

/-- The call of a number in the queue. -/
def CallQueue.numbered (q : CallQueue) (number : Nat) : Option CallRecord :=
  q.queue.find? fun c => decide (c.number = number)

/-- A kind is held for a lane, in the queue or in the lane's unqueued set. -/
def House.callHeld (h : House) (n : Nat) (k : CallKind) : Bool :=
  (h.calls.find n k).isSome || (h.unqueued n).has k

/-! ### Blocking presence (R141) -/

/-- A blocking kind is present for lane `n`: one of the lane's own, or a RETURN_JAM of its pair (R141). -/
def House.blocked (h : House) (n : Nat) : Bool :=
  callKinds.any fun k => isBlocking k && h.callHeld (callLane n k) k

/-- The Call Queue's report for lane `n` against the presence `before` the change, and the Lane Unit's answer to it: CALL
is added on "present" and removed on "gone" (R8, R141). -/
def House.followCall (h : House) (n : Nat) (before : Bool) : House :=
  if !before && h.blocked n then h.addCause n .call
  else if before && !h.blocked n then h.removeCause n .call
  else h

/-! ### Call numbers (R138) -/

/-- The number after `n`: after 999 the numbering continues from 1. -/
def nextNumber (n : Nat) : Nat := if n ≥ Config.lastCallNumber then 1 else n + 1

/-- The next number after `last` that no call of the queue holds, found within `tries` tries. -/
def freeNumber (q : List CallRecord) : (tries : Nat) → (last : Nat) → Nat
  | 0, last => nextNumber last
  | t + 1, last =>
    if q.any fun c => decide (c.number = nextNumber last) then freeNumber q t (nextNumber last) else nextNumber last

/-! ### Entering the queue (R139, R140) -/

/-- A call enters the queue at the last place of the age order (R139). -/
def House.enterCall (h : House) (n : Nat) (k : CallKind) (code : Option Half) : House :=
  let number := freeNumber h.calls.queue 33 h.calls.lastNumber
  let c : CallRecord :=
    { number := number, lane := n, kind := k, callClass := h.calls.classMap[k.place], station := none, repeats := 1,
      opened := h.stamp, faultCode := if k = .machineJam then code else none }
  { h with calls := { h.calls with queue := h.calls.queue ++ [c], lastNumber := number } }

/-- The queue with the repeat count of the call of a lane and kind raised by 1, held at 99 (R139). -/
def countRepeat (queue : List CallRecord) (n : Nat) (k : CallKind) : List CallRecord :=
  queue.map fun c =>
    if c.lane = n ∧ c.kind = k then { c with repeats := min (c.repeats + 1) Config.repeatLimit } else c

/-- What R139 does with a raise of a kind keyed on lane `n`, before blocking presence is reported. -/
def House.takeRaise (h : House) (n : Nat) (k : CallKind) (code : Option Half) : House :=
  if (h.calls.find n k).isSome then
    { h with calls := { h.calls with queue := countRepeat h.calls.queue n k } }
  else if (h.unqueued n).has k then h
  else if h.calls.queue.length < Config.queueRoom then h.enterCall n k code
  else h.setUnqueued n ((h.unqueued n).join k code)

/-- A raise of a kind for a lane (R139), with the reports of blocking presence it brings (R141). -/
def House.raiseCall (h : House) (lane : Nat) (k : CallKind) (code : Option Half := none) : House :=
  let before := (lanesConcerned lane k).map fun n => (n, h.blocked n)
  before.foldl (fun h nb => h.followCall nb.1 nb.2) (h.takeRaise (callLane lane k) k code)

/-- The lowest-numbered lane whose unqueued set is not empty, with the first kind of that set in kind order (R140). -/
def House.nextUnqueued (h : House) : Option (Nat × CallKind) :=
  (numbers Config.lanes).findSome? fun n => (h.unqueued n).first.map fun k => (n, k)

/-- One kind enters the queue from the unqueued sets, where the queue has room and some set is not empty (R140). -/
def House.enterUnqueued (h : House) : House :=
  if h.calls.queue.length < Config.queueRoom then
    match h.nextUnqueued with
    | some (n, k) =>
      let code := (h.unqueued n).faultCode
      (h.setUnqueued n ((h.unqueued n).leave k)).enterCall n k code
    | none => h
  else h

/-- Entry from the unqueued sets, repeated while the queue holds fewer than 32 calls and some set is not empty (R140). -/
def House.fillQueue (h : House) : House := (List.range Config.queueRoom).foldl (fun h _ => h.enterUnqueued) h

/-! ### Retirement (R147, R149) -/

/-- The stations' records without a call number (R138). -/
def withoutNumber (stations : Vector (List Nat) 4) (number : Nat) : Vector (List Nat) 4 :=
  (numbers 4).foldl
    (fun st k => numSet st k ((numGet st [] k).filter fun held => decide (held ≠ number))) stations

/-- A call leaves the queue, and the record of any station that holds it. -/
def House.removeCall (h : House) (number : Nat) : House :=
  { h with calls := { h.calls with
      queue := h.calls.queue.filter (fun c => decide (c.number ≠ number)),
      stations := withoutNumber h.calls.stations number } }

/-- A WAKE_FAIL of a lane retires without clearing (R149): it leaves the queue, and the freed place is filled, or it leaves
the lane's unqueued set. -/
def House.retireWakeFail (h : House) (n : Nat) : House :=
  match h.calls.find n .wakeFail with
  | some c => (h.removeCall c.number).fillQueue
  | none => h.setUnqueued n ((h.unqueued n).leave .wakeFail)

end Sys2Proof.Machine
end

