-- ==== Sys2Proof/Machine/Scoring.lean ====
section
/-! DEFINITION. The score sheet (chapter 3): the owed set, the recording of a ball with its bonuses, frames and running
totals, rescoring, game totals and handicap. All of it is a function of the sheet and the ball, as R63 asks. -/

namespace Sys2Proof.Machine

open Sys2Proof

/-! ### Empty records -/

/-- A frame not yet begun (03 TABLE 2). -/
def FrameRecord.blank : FrameRecord := { balls := [], kind := none, score := none, running := none }

/-- The sheet of a game with no ball recorded (R50, R64). -/
def Sheet.blank : Sheet := { frames := Vector.replicate 10 .blank, bonuses := [], current := 1 }

/-- Frame `f` of the sheet. -/
def Sheet.frame (sh : Sheet) (f : Nat) : FrameRecord := numGet sh.frames .blank f

/-- The sheet with frame `f` replaced. -/
def Sheet.setFrame (sh : Sheet) (f : Nat) (r : FrameRecord) : Sheet := { sh with frames := numSet sh.frames f r }

/-! ### The owed set (R51) -/

/-- The owed set of the next ball, from the balls already recorded in frame `f` (03 TABLE 5). -/
def owedFrom (f : Nat) (balls : List BallRecord) : PinSet :=
  match balls.getLast? with
  | none => fullRack
  | some b =>
    if b.foul then b.before
    else if f = 10 ∧ b.after = noPins then fullRack
    else b.after

/-- The owed set of the bowler's next ball (R51). -/
def Sheet.owed (sh : Sheet) : PinSet := owedFrom sh.current (sh.frame sh.current).balls

/-! ### One ball (R51, R52) -/

/-- The ball record of a ball handed with its two sets, trimmed to the owed set (R51), with its pinfall (R52). -/
def trimBall (owed before after : PinSet) (foul : Bool) (speed : Option Half) : BallRecord :=
  let before := before &&& owed
  let after := after &&& before
  { pinfall := if foul then 0 else pinCount (pinsOnlyIn before after), before := before, after := after, foul := foul,
    speed := speed }

/-- A strike, tested on ball 1 (R54). -/
def BallRecord.isStrike (b : BallRecord) : Bool :=
  !b.foul && decide (b.before = fullRack) && decide (b.after = noPins)

/-- The spare test on ball 2 (R55). -/
def BallRecord.isSpare (b : BallRecord) : Bool :=
  !b.foul && decide (b.before ≠ noPins) && decide (b.pinfall = pinCount b.before)

/-- The sum of the pinfalls of balls. -/
def pinfalls (balls : List BallRecord) : Nat := (balls.map (·.pinfall)).foldl (· + ·) 0

/-! ### The pending-bonus list (R53) -/

/-- Every entry gains the ball's pinfall and owes one ball less (R53). -/
def payEntries (bonuses : List BonusEntry) (pinfall : Nat) : List BonusEntry :=
  bonuses.map fun e => { e with owed := e.owed - 1, bonus := e.bonus + pinfall }

/-- The frames with each entry's frame given its frame score, 10 plus its bonus (R53, R58). -/
def closeEntries (frames : Vector FrameRecord 10) (closed : List BonusEntry) : Vector FrameRecord 10 :=
  closed.foldl
    (fun fs e => numSet fs e.frame { numGet fs .blank e.frame with score := some (10 + e.bonus) }) frames

/-- A ball's pinfall is paid into the pending-bonus list, and entries that owe no ball leave it (R53). -/
def Sheet.pay (sh : Sheet) (pinfall : Nat) : Sheet :=
  let paid := payEntries sh.bonuses pinfall
  { sh with frames := closeEntries sh.frames (paid.filter fun e => decide (e.owed = 0)),
            bonuses := paid.filter fun e => decide (e.owed ≠ 0) }

/-! ### How a ball leaves its frame (R54 to R57) -/

/-- What a ball does to its frame: it goes on, or it ends with its kind, its frame score if it is scored at once, and the
balls owed by the entry it appends to the pending-bonus list. -/
inductive FrameOutcome where
  | continues
  | ends (kind : FrameKind) (score : Option Nat) (owed : Option Nat)
deriving DecidableEq, Repr

/-- The outcome of a frame 1 to 9 after its balls, the last one just recorded (R54, R55). -/
def earlyFrame (balls : List BallRecord) : FrameOutcome :=
  match balls with
  | [b] =>
    if b.isStrike then .ends .strike none (some 2)
    else if !b.foul && decide (b.after = noPins) then .ends .openFrame (some b.pinfall) none
    else if b.foul && decide (b.before = noPins) then .ends .openFrame (some 0) none
    else .continues
  | [_, b] =>
    if b.isSpare then .ends .spare none (some 1) else .ends .openFrame (some (pinfalls balls)) none
  | _ => .ends .openFrame (some (pinfalls balls)) none

/-- The kind of frame 10 (R57). -/
def tenthKind (balls : List BallRecord) : FrameKind :=
  match balls with
  | b :: rest =>
    if b.isStrike then .strike
    else
      match rest with
      | c :: _ => if c.isSpare then .spare else .openFrame
      | [] => .openFrame
  | [] => .openFrame

/-- How many balls frame 10 takes where it does not end early (R57). -/
def tenthBalls (kind : FrameKind) : Nat := if kind = .openFrame then 2 else 3

/-- The early end of frame 10 (R57): an OPEN short first ball, or a foul at an empty set. -/
def tenthEndsEarly (balls : List BallRecord) : Bool :=
  match balls with
  | [b] => !b.foul && decide (b.after = noPins) && decide (b.before ≠ fullRack) ||
      b.foul && decide (b.before = noPins)
  | _ => (balls.getLast?.map fun b => b.foul && decide (b.before = noPins)).getD false

/-- The outcome of frame 10 after its balls, the last one just recorded (R57). -/
def tenthFrame (balls : List BallRecord) : FrameOutcome :=
  if tenthEndsEarly balls || decide (tenthBalls (tenthKind balls) ≤ balls.length) then
    .ends (tenthKind balls) (some (pinfalls balls)) none
  else .continues

/-- The outcome of frame `f` after its balls. -/
def frameOutcome (f : Nat) (balls : List BallRecord) : FrameOutcome :=
  if f = 10 then tenthFrame balls else earlyFrame balls

/-! ### Running totals (R59) -/

/-- The running totals of the frames from `sofar` upward: present while every frame up to it has its score (R59). -/
def runningFrom (sofar : Option Nat) : List FrameRecord → List (Option Nat)
  | [] => []
  | r :: rest =>
    let total := match sofar, r.score with
      | some a, some b => some (a + b)
      | _, _ => none
    total :: runningFrom total rest

/-- The sheet with its running totals brought up to date from frame 1 upward (R59). -/
def Sheet.total (sh : Sheet) : Sheet :=
  let totals := runningFrom (some 0) sh.frames.toList
  let write (fs : Vector FrameRecord 10) (f : Nat) : Vector FrameRecord 10 :=
    numSet fs f { numGet fs .blank f with running := totals.getD (f - 1) none }
  { sh with frames := (numbers 10).foldl write sh.frames }

/-! ### Recording (R51 to R59) -/

/-- The end of the current frame (R56, R58): a frame 1 to 9 moves the current frame on; frame 10 closes every entry that
is still owed balls. -/
def Sheet.endFrame (sh : Sheet) : Sheet :=
  if sh.current = 10 then { sh with frames := closeEntries sh.frames sh.bonuses, bonuses := [] }
  else { sh with current := sh.current + 1 }

/-- The entry a strike or spare of frame `f` appends to the pending-bonus list (R54, R55). -/
def Sheet.owe (sh : Sheet) (f : Nat) (owed : Option Nat) : Sheet :=
  match owed with
  | some n => { sh with bonuses := sh.bonuses ++ [{ frame := f, owed := n, bonus := 0 }] }
  | none => sh

/-- A ball is recorded (R51 to R59). The second component says whether it ended its frame. -/
def Sheet.record (sh : Sheet) (before after : PinSet) (foul : Bool) (speed : Option Half) : Sheet × Bool :=
  let b := trimBall sh.owed before after foul speed
  let f := sh.current
  let sh := sh.pay b.pinfall
  let balls := (sh.frame f).balls ++ [b]
  match frameOutcome f balls with
  | .continues => ((sh.setFrame f { sh.frame f with balls := balls }).total, false)
  | .ends kind score owed =>
    let sh := (sh.setFrame f { sh.frame f with balls := balls, kind := some kind, score := score }).owe f owed
    (sh.endFrame.total, true)

/-- The frame the sheet's next ball falls in has not ended and holds balls: the bowler is in the middle of a frame. -/
def Sheet.midFrame (sh : Sheet) : Bool :=
  !(sh.frame sh.current).balls.isEmpty && (sh.frame sh.current).kind.isNone

/-! ### Rescoring (R63, R102) -/

/-- The stored balls of frame `f` recorded again into that same frame, in the order bowled. Absent where the frame ends
before its last stored ball. The mark says whether the frame has ended. -/
def rescoreBalls (f : Nat) : (sh : Sheet) → (ended : Bool) → List BallRecord → Option (Sheet × Bool)
  | sh, ended, [] => some (sh, ended)
  | sh, ended, b :: rest =>
    if ended || decide (sh.current ≠ f) then none
    else
      let r := sh.record b.before b.after b.foul b.speed
      rescoreBalls f r.1 r.2 rest

/-- The trial rescore of R102: every frame's stored balls are recorded again into that same frame, from an empty game.
Absent where some frame other than `free` changes its shape, or stored balls have no place in their frame. `free` is the
frame that a current-frame correction leaves free to change its shape. -/
def rescoreFrames (free : Option Nat) : (sh : Sheet) → List (Nat × FrameRecord) → Option Sheet
  | sh, [] => some sh
  | sh, (f, old) :: rest =>
    match rescoreBalls f sh false old.balls with
    | none => none
    | some (sh', _) =>
      if free = some f || decide ((sh'.frame f).kind = old.kind) then rescoreFrames free sh' rest else none

/-- The frames of a sheet with their numbers. -/
def Sheet.numbered (sh : Sheet) : List (Nat × FrameRecord) := (numbers 10).map fun f => (f, sh.frame f)

/-- The trial rescore of a sheet (R63, R102). -/
def Sheet.rescore (sh : Sheet) (free : Option Nat) : Option Sheet := rescoreFrames free .blank sh.numbered

/-- The ball of index `k`, from 1, of frame `f`. -/
def Sheet.ball (sh : Sheet) (f k : Nat) : Option BallRecord := if k = 0 then none else (sh.frame f).balls[k - 1]?

/-- The sheet with the standing-after set and foul mark of one stored ball replaced (R98). -/
def Sheet.correct (sh : Sheet) (f k : Nat) (after : PinSet) (foul : Bool) : Sheet :=
  match sh.ball f k with
  | none => sh
  | some b =>
    sh.setFrame f { sh.frame f with balls := (sh.frame f).balls.set (k - 1) { b with after := after, foul := foul } }

/-! ### Game totals (R66, R67) and handicap (R68) -/

/-- The running total of frame 10, or 0 while it has none. -/
def Sheet.gameTotal (sh : Sheet) : Nat := ((sh.frame 10).running).getD 0

/-- The running total of the highest-numbered frame that has one. -/
def Sheet.highestRunning (sh : Sheet) : Option Nat :=
  ((numbers 10).reverse).findSome? fun f => (sh.frame f).running

/-- The game totals entry of a bowler at a squad game end (R67), or none where it took no part. -/
def BowlerRecord.entry (b : BowlerRecord) : Option GameTotal :=
  match b.inGame with
  | .yes => some { total := b.sheet.gameTotal, incomplete := false }
  | .left => some { total := b.sheet.highestRunning.getD 0, incomplete := true }
  | .no => none

/-- The game totals list with an entry appended: the oldest leaves a full list first (R66). -/
def appendTotal (totals : List GameTotal) (e : GameTotal) : List GameTotal :=
  (if totals.length ≥ Config.gameTotals then totals.drop 1 else totals) ++ [e]

/-- The bowler record at a squad game end (R67). -/
def BowlerRecord.appendGame (b : BowlerRecord) : BowlerRecord :=
  match b.entry with
  | some e => { b with totals := appendTotal b.totals e }
  | none => b

/-- The handicap of an average under a squad's rule (R68). -/
def handicap (rule : HandicapRule) (average : Nat) : Nat :=
  if rule.basis ≤ average then 0 else min rule.cap ((rule.basis - average) * rule.percent / 100)

/-- A bowler record set at a game start (R64): a present bowler takes the game, an ABSENT one takes none. -/
def BowlerRecord.startGame (b : BowlerRecord) : BowlerRecord :=
  if b.state = .absent then { b with inGame := .no }
  else { b with sheet := .blank, gameNumber := min (b.gameNumber + 1) 255, inGame := .yes, state := .waiting }

end Sys2Proof.Machine
end

