-- ==== Sys2Proof/Machine/Meters.lean ====
section
/-! DEFINITION. Meters and charges (chapters 9 and 10): the band in force, the metered totals and thresholds, the charge
of a game start, and the arithmetic of a bill. -/

namespace Sys2Proof.Machine

open Sys2Proof

/-! ### Bands (R152) -/

/-- A band put into its place by start minute. -/
def insertBand (b : Band) : List Band → List Band
  | [] => [b]
  | c :: rest => if b.start ≤ c.start then b :: c :: rest else c :: insertBand b rest

/-- The bands sorted by start minute (R153). -/
def sortBands : List Band → List Band
  | [] => []
  | b :: rest => insertBand b (sortBands rest)

/-- The place of the band in force at minute `m` in a list sorted by start minute: the last band whose start is not above
`m`, or the last band of the list before the first start (R152). -/
def bandAt (bands : List Band) (m : Nat) : Nat :=
  let begun := (bands.filter fun b => decide (b.start ≤ m)).length
  if begun = 0 then bands.length - 1 else begun - 1

/-- The price of the band in force at minute `m` (R152). -/
def priceAt (bands : List Band) (m : Nat) : Nat := ((bands[bandAt bands m]?).map (·.price)).getD 0

/-! ### Held sums (R171) -/

/-- A sum held at 9,999,999, with its held mark. -/
def holdSum (n : Nat) : HeldSum := { amount := min n Config.moneyLimit, held := decide (Config.moneyLimit < n) }

/-- The sum of a list of numbers. -/
def sumOf (l : List Nat) : Nat := l.foldl (· + ·) 0

/-! ### Metered totals (R161, R168) -/

/-- The metered total of a slot: the sum of its band seconds (R161). -/
def MeterSlot.total (m : MeterSlot) : Nat := sumOf m.bandSeconds

/-- The seconds at which the warning of a MINUTES n allowance is met (R161). -/
def warningSeconds (n lead : Nat) : Nat := (n - lead) * 60

/-- Some slot's metered total has reached `seconds`. -/
def TabRecord.reached (r : TabRecord) (seconds : Nat) : Bool := r.slots.any fun m => decide (seconds ≤ m.total)

/-- The condition of the warning (R161). -/
def TabRecord.warningMet (r : TabRecord) : Bool :=
  match r.allowance with
  | .unlimited => false
  | .games n => decide (n < r.gamesStarted + r.lastStart)
  | .minutes n => r.reached (warningSeconds n r.lead)

/-- The run-out condition: under MINUTES n some slot's metered total has reached n × 60 seconds (R161). -/
def TabRecord.runOutMet (r : TabRecord) : Bool :=
  match r.allowance with
  | .minutes n => r.reached (n * 60)
  | _ => false

/-- A warning that is NONE becomes SET; any other is left as it is (R161). -/
def raiseWarning (w : Warning) : Warning := if w = .none then .set else w

/-! ### Metering one second (R167) -/

/-- A slot advanced by one second according to its meter condition, `band` being the place of the band in force (R167). -/
def MeterSlot.advance (m : MeterSlot) (band : Nat) : MeterSlot :=
  match m.attached, m.condition with
  | true, some .metering =>
    { m with bandSeconds := m.bandSeconds.set band (min ((m.bandSeconds.getD band 0) + 1) Config.secondsLimit) }
  | true, some .crediting => { m with downtime := min (m.downtime + 1) Config.secondsLimit }
  | _, _ => m

/-- A second is metered on the slot at this boundary. -/
def MeterSlot.meters (m : MeterSlot) : Bool := m.attached && decide (m.condition = some .metering)

/-- A tab at a second boundary of a minute with `band` in force: every slot is advanced (R167), and where a second was
metered under MINUTES n the two thresholds are compared (R168). -/
def TabRecord.second (r : TabRecord) (band : Nat) : TabRecord :=
  let metered := r.slots.any MeterSlot.meters
  let r : TabRecord := { r with slots := r.slots.map fun m => MeterSlot.advance m band }
  match r.allowance with
  | .minutes n =>
    if metered then
      { r with warning := if r.reached (warningSeconds n r.lead) then raiseWarning r.warning else r.warning,
               runOut := r.runOut || r.reached (n * 60) }
    else r
  | _ => r

/-! ### Charging a game start (R169) -/

/-- The charge of a game start is refused (R169): it would pass a game allowance or 9,999 games. -/
def TabRecord.refusesStart (r : TabRecord) (k : Nat) : Bool :=
  (match r.allowance with
    | .games n => decide (n < r.gamesStarted + k)
    | _ => false) || decide (Config.gamesLimit < r.gamesStarted + k)

/-- The tab after an accepted game start of `k` bowlers at minute `m` (R169). A request for 0 bowlers changes nothing. -/
def TabRecord.acceptStart (r : TabRecord) (plan : Option RatePlan) (k m : Nat) : TabRecord :=
  if k = 0 then r
  else
    let charges := match plan with
      | some p => if p.kind = .game then
          let sum := holdSum (r.gameCharges.amount + k * priceAt p.bands m)
          { amount := sum.amount, held := r.gameCharges.held || sum.held }
        else r.gameCharges
      | none => r.gameCharges
    let r := { r with gamesStarted := r.gamesStarted + k, lastStart := k, gameCharges := charges }
    match r.allowance with
    | .games n => if n < r.gamesStarted + k then { r with warning := raiseWarning r.warning } else r
    | _ => r

/-! ### The bill (R170, R171) -/

/-- The units of `s` seconds at `increment` minutes (R170). The divisor is the increment in seconds. -/
def unitsOf (rounding : Rounding) (s increment : Nat) : Nat :=
  let d := increment * 60
  match rounding with
  | .down => s / d
  | .up => (s + d - 1) / d
  | .nearest => (2 * s + d) / (2 * d)

/-- The band line of a bill for `s` seconds in a band (R170). Under a GAME plan it shows its seconds only. -/
def bandLine (p : RatePlan) (b : Band) (s : Nat) : BandLine :=
  if p.kind = .game then
    { start := b.start, price := b.price, seconds := s, units := 0, roundedUp := false, charge := 0, held := false }
  else
    let units := unitsOf p.rounding s p.increment
    let charge := holdSum (units * b.price)
    { start := b.start, price := b.price, seconds := s, units := units,
      roundedUp := decide (s < units * (p.increment * 60)), charge := charge.amount, held := charge.held }

/-- The band lines of a slot, one for each band of the plan (10 TABLE 2). -/
def bandLines (p : RatePlan) (seconds : List Nat) : List BandLine :=
  (List.range p.bands.length).map fun k => bandLine p (p.bands.getD k ⟨0, 0⟩) (seconds.getD k 0)

/-- The bill of a tab on a plan (R170, R171). -/
def computeBill (number : Nat) (r : TabRecord) (p : RatePlan) (stamp : Option Stamp) : Bill :=
  let slots := r.slots.map fun m =>
    ({ lane := m.lane, attached := m.attached, downtime := m.downtime, bands := bandLines p m.bandSeconds } : SlotLine)
  let lines := slots.flatMap (·.bands)
  let sum := holdSum (sumOf (lines.map (·.charge)))
  let before : HeldSum := { amount := sum.amount, held := sum.held || lines.any (·.held) }
  let applied := decide (p.kind = .time) && decide (before.amount < p.minimum) && lines.any fun l => decide (0 < l.seconds)
  let timeCharge := if p.kind = .game then 0 else if applied then p.minimum else before.amount
  let items := r.items.map fun e =>
    ({ code := e.code, quantity := e.quantity, price := e.price, amount := e.quantity * e.price } : ItemLine)
  let itemsTotal := holdSum (sumOf (items.map (·.amount)))
  let all := holdSum (r.gameCharges.amount + timeCharge + itemsTotal.amount)
  { tab := number, plan := r.plan, computedAt := stamp, gamesStarted := r.gamesStarted, gameCharges := r.gameCharges,
    slots := slots, beforeMinimum := before, minimumApplied := applied, timeCharge := timeCharge, items := items,
    itemsTotal := itemsTotal,
    total := { amount := all.amount,
               held := all.held || r.gameCharges.held || before.held || itemsTotal.held } }

/-- An undefined plan read for its bands: it has none. An OPEN tab's plan is always defined (R153). -/
def RatePlan.undefined : RatePlan := { kind := .time, bands := [], increment := 1, rounding := .down, minimum := 0 }

/-- The bill of tab `t` as it stands at this step (R172, R173). -/
def House.bill (h : House) (t : Nat) (r : TabRecord) : Bill :=
  computeBill t r ((h.plan r.plan).getD .undefined) h.stamp

end Sys2Proof.Machine
end

