-- ==== Sys2Proof/Machine/Rotation.lean ====
section
/-! DEFINITION. Squads (chapter 4): who bowls, the end of a squad frame and of a squad's game, the charge and start of a
game, pair cross play, the stop at an allowance and its release, and retirement; with the deck needs that the Scoring
Unit hands the Lane Unit (R43, R60). -/

namespace Sys2Proof.Machine

open Sys2Proof

/-! ### Questions about a squad -/

/-- A squad's game is in progress: PLAYING, FRAME_WAIT, or STOPPED at AT_FRAME (04 TABLE 2). -/
def SquadRecord.inProgress (r : SquadRecord) : Bool :=
  match r.state, r.stopPoint with
  | .playing, _ => true
  | .frameWait, _ => true
  | .stopped, some (.atFrame _) => true
  | _, _ => false

/-- Squad `q` has a game in progress. -/
def House.gameInProgress (h : House) (q : Nat) : Bool := ((h.squad q).map (·.inProgress)).getD false

/-- Bowler `k` is in a state. -/
def House.bowlerIn (h : House) (state : BowlerState) (k : Nat) : Bool :=
  match h.bowler k with
  | some b => decide (b.state = state)
  | none => false

/-- Bowler `k` is present: its state is not ABSENT (section 4.1). -/
def House.present (h : House) (k : Nat) : Bool :=
  match h.bowler k with
  | some b => decide (b.state ≠ .absent)
  | none => false

/-- The count of a squad's present bowlers. -/
def House.presentCount (h : House) (r : SquadRecord) : Nat := (r.order.filter h.present).length

/-- Every present bowler of the squad is DONE, or none is present (R84). -/
def House.allDone (h : House) (r : SquadRecord) : Bool :=
  (r.order.filter h.present).all fun k => h.bowlerIn .done k

/-- Bowler `k` is to bowl squad frame `f` (section 4.1). -/
def House.toBowl (h : House) (f k : Nat) : Bool :=
  match h.bowler k with
  | some b =>
    decide (b.inGame = .yes) && (decide (b.state = .waiting) || decide (b.state = .up)) && decide (b.sheet.current = f)
  | none => false

/-- The bowler UP on lane `n`: the bowler of the lane's squad in state UP (R61). -/
def House.upOn (h : House) (n : Nat) : Option Nat :=
  match (h.lane n).squad with
  | none => none
  | some q =>
    match h.squad q with
    | none => none
    | some r => r.order.find? fun k => h.bowlerIn .up k

/-- The expected deck of lane `n` (R62): the set its next ball is owed with the start-of-frame mark, or nothing to
bowl. -/
def House.expectedDeck (h : House) (n : Nat) : Option (PinSet × Bool) :=
  match (h.upOn n).bind h.bowler with
  | some b => some (b.sheet.owed, (b.sheet.frame b.sheet.current).balls.isEmpty)
  | none =>
    match (h.lane n).squad with
    | some q => if h.gameInProgress q then some (fullRack, true) else none
    | none => none

/-- The partner of a squad in PAIR_PLAY, with its record. -/
def House.partnerOf (h : House) (r : SquadRecord) : Option (Nat × SquadRecord) :=
  match r.mode, r.partner with
  | .pairPlay, some p => (h.squad p).map fun rp => (p, rp)
  | _, _ => none

/-- The tab of lane `n` carries the run-out mark (R94). -/
def House.runOutOn (h : House) (n : Nat) : Bool :=
  match ((h.lane n).tab).bind h.tab with
  | some r => r.runOut
  | none => false

/-! ### Deck needs handed outside a ball (R43) -/

/-- The Lane Unit would decline a need: the deck is DELIVERY or CYCLING (R43). -/
def House.declinesNeed (h : House) (n : Nat) : Bool :=
  decide ((h.lane n).deck = .delivery) || decide ((h.lane n).deck = .cycling)

/-- The Lane Unit is handed a need for lane `n` outside the completion of a ball (R43). -/
def House.handNeed (h : House) (n : Nat) (kind : CycleKind) (pins : PinSet) : House :=
  match (h.lane n).deck with
  | .ready => if commandedSet kind pins = some (h.lane n).standing then h else h.orderCycle n kind pins
  | .idle => h.orderCycle n kind pins
  | .empty | .delivery | .cycling => h

/-- NEW_RACK handed to the lane of each squad whose game has just started (R87, R88), but for lane `home`: the lane of the
step's own ball or edit takes its need from that (R60, R79, R106). -/
def House.handStarts (h : House) (home : Nat) (squads : List Nat) : House :=
  squads.foldl (fun h q =>
    match h.squad q with
    | some r => if r.lane = home then h else h.handNeed r.lane .newRack fullRack
    | none => h) h

/-- SWEEP handed to each lane whose squad's game ended with no next game in a step that did not hand its ball (R85).
`before` is the house before the step (log entry 16). -/
def House.handSweeps (h : House) (before : House) (lanes : List Nat) : House :=
  lanes.foldl (fun h n =>
    match (before.lane n).squad with
    | none => h
    | some q =>
      if (h.squad q).isSome && before.gameInProgress q && !h.gameInProgress q then h.handNeed n .sweep noPins else h) h

/-! ### Stopping (R94, R96) -/

/-- The return state of a squad stopped at a start: the state it held; a squad already STOPPED there keeps its own. -/
def SquadRecord.returnState (r : SquadRecord) : ReturnState :=
  match r.stopPoint, r.state with
  | some (.atStart back), _ => back
  | _, .forming => .forming
  | _, _ => .gameDone

/-- Squad `q` becomes STOPPED at a stop point, and its lane takes ALLOWANCE (R94, R96). -/
def House.stopSquad (h : House) (q : Nat) (point : StopPoint) : House :=
  match h.squad q with
  | none => h
  | some r =>
    (h.setSquad q (some { r with state := .stopped, stopPoint := some point, upPosition := none })).addCause r.lane
      .allowance

/-- Squad `q` becomes STOPPED at AT_START with the return state it held (R87, R94). -/
def House.stopAtStart (h : House) (q : Nat) : House :=
  match h.squad q with
  | none => h
  | some r => h.stopSquad q (.atStart r.returnState)

/-- Squad `q` is stopped at the end of frame `f`; a partner waiting in FRAME_WAIT at that frame is stopped with it
(R94). -/
def House.stopAtFrame (h : House) (q f : Nat) : House :=
  match h.squad q with
  | none => h
  | some r =>
    let h := h.stopSquad q (.atFrame f)
    match h.partnerOf r with
    | some (p, rp) => if rp.state = .frameWait ∧ rp.frame = f then h.stopSquad p (.atFrame f) else h
    | none => h

/-! ### Charging and starting a game (R86 to R88, R169) -/

/-- The Scoring Unit asks the Tab Unit of lane `n`'s tab to charge a game start for `k` bowlers. While the tab carries the
run-out mark it does not ask and takes the start as refused (R86, R169). -/
def House.charge (h : House) (n k : Nat) : House × Bool :=
  match (h.lane n).tab with
  | none => (h, false)
  | some t =>
    match h.tab t with
    | none => (h, false)
    | some r =>
      if r.runOut || r.refusesStart k then (h, false)
      else (h.setTab t (some (r.acceptStart (h.plan r.plan) k (minuteOf h.clock.time))), true)

/-- The bowler records of an order changed one by one. -/
def House.mapBowlers (h : House) (order : List Nat) (change : BowlerRecord → BowlerRecord) : House :=
  order.foldl (fun h k => h.setBowler k ((h.bowler k).map change)) h

/-- Steps 1 to 3 of an accepted start of squad `q` (R87): its bowlers are set by R64, its frame is 1 and its state
PLAYING, a STOPPED squad's lane loses ALLOWANCE, and in PAIR_PLAY the pair game is raised. -/
def House.startSquad (h : House) (q : Nat) : House :=
  match h.squad q with
  | none => h
  | some r =>
    let h := (h.mapBowlers r.order BowlerRecord.startGame).setSquad q (some { r with
      frame := 1, state := .playing, stopPoint := none, upPosition := none,
      pairGame := if r.mode = .pairPlay then min (r.pairGame + 1) 255 else r.pairGame })
    if r.state = .stopped then h.removeCause r.lane .allowance else h

/-- Steps 1 to 3 of a squad's game end (R85): the game totals are appended in the order of the squad (R67), the UP
position is cleared and the state becomes GAME_DONE. -/
def House.closeGame (h : House) (q : Nat) : House :=
  match h.squad q with
  | none => h
  | some r =>
    (h.mapBowlers r.order BowlerRecord.appendGame).setSquad q
      (some { r with state := .gameDone, stopPoint := none, upPosition := none })

/-- A squad whose game has ended, or that stands stopped after it (R88). -/
def SquadRecord.finished (r : SquadRecord) : Bool :=
  match r.state, r.stopPoint with
  | .gameDone, _ => true
  | .stopped, some (.atStart _) => true
  | _, _ => false

/-- No automatic start is tried: each squad concerned stays as it is, or is stopped at AT_START where its tab carries the
run-out mark (R88, R94). -/
def House.leaveDone (h : House) (squads : List Nat) : House :=
  squads.foldl (fun h q =>
    match h.squad q with
    | some r => if r.state = .gameDone ∧ h.runOutOn r.lane = true then h.stopAtStart q else h
    | none => h) h

/-- The outcome of a charge request for squads (R87): accepted, each squad is started, takes its bowler UP by `again`, and
its lane is handed NEW_RACK, but for lane `home`; refused, each becomes STOPPED at AT_START. -/
def House.applyCharge (again : House → Nat → House) (h : House) (home : Nat) (squads : List Nat) (accepted : Bool) : House :=
  if accepted then (squads.foldl again (squads.foldl House.startSquad h)).handStarts home squads
  else squads.foldl House.stopAtStart h

/-- The automatic next game after the game end of squad `q` (R88). `home` is the lane whose ball or edit ended the game;
the deck of any other lane concerned must be neither DELIVERY nor CYCLING. -/
def House.nextGame (again : House → Nat → House) (h : House) (home q : Nat) : House :=
  match h.squad q with
  | none => h
  | some r =>
    let partner := h.partnerOf r
    let squads := match partner with
      | some (p, _) => [q, p]
      | none => [q]
    let count := h.presentCount r + (match partner with
      | some (_, rp) => h.presentCount rp
      | none => 0)
    let partnerFinished := match partner with
      | some (_, rp) => rp.finished
      | none => true
    let decksStill := match partner with
      | some (_, rp) => [r.lane, rp.lane].all fun n => decide (n = home) || !h.declinesNeed n
      | none => true
    if !partnerFinished then h.leaveDone [q]
    else if !r.autoNext || decide (count = 0) || !decksStill then h.leaveDone squads
    else
      let c := h.charge r.lane count
      House.applyCharge again c.1 home squads c.2

/-- The game end of squad `q` (R85). A carried partner waiting at frame 10 ends its game with it (R92). -/
def House.endGame (again : House → Nat → House) (h : House) (home q : Nat) : House :=
  let h := h.closeGame q
  match (h.squad q).bind h.partnerOf with
  | some (p, rp) =>
    let h := if rp.state = .frameWait ∧ rp.frame = 10 then h.closeGame p else h
    House.nextGame again h home q
  | none => House.nextGame again h home q

/-! ### Rotation (R83, R84), the wait (R90) and the swap (R91) -/

/-- Squad `q` is put at a frame and a state, with nobody UP. -/
def House.squadAt (h : House) (q f : Nat) (state : SquadState) : House :=
  match h.squad q with
  | none => h
  | some r => h.setSquad q (some { r with frame := f, state := state, stopPoint := none, upPosition := none })

/-- Lane `n` is written with squad `q`, and the squad's record with the lane (R76). -/
def House.placeSquad (h : House) (q n : Nat) : House :=
  let h := h.setLane n { h.lane n with squad := some q }
  match h.squad q with
  | none => h
  | some r => h.setSquad q (some { r with lane := n })

/-- The swap of squads `q` and `p` after frame `f` (R91): their lanes are exchanged, both take frame f + 1 and PLAYING, and
each takes its bowler UP by `again`. -/
def House.swap (again : House → Nat → House) (h : House) (q p f : Nat) : House :=
  match h.squad q, h.squad p with
  | some rq, some rp =>
    let h := (h.placeSquad q rp.lane).placeSquad p rq.lane
    let h := (h.squadAt q (f + 1) .playing).squadAt p (f + 1) .playing
    again (again h q) p
  | _, _ => h

/-- The end of the squad frame of squad `q` (R84), the first row of 04 TABLE 5 that fits. `bowled` says that a ball or a
correction ended the frame; otherwise the squad has no bowler to bowl it and is carried (R65, R71, R92). A carried squad
waits at frame 10 for a partner still bowling it (log entry 14). -/
def House.endSquadFrame (again : House → Nat → House) (h : House) (home q : Nat) (bowled : Bool) : House :=
  match h.squad q with
  | none => h
  | some r =>
    let f := r.frame
    match h.partnerOf r with
    | none =>
      if h.allDone r || decide (10 ≤ f) then House.endGame again h home q
      else if h.runOutOn r.lane then h.stopAtFrame q f
      else again (h.squadAt q (f + 1) .playing) q
    | some (p, rp) =>
      if 10 ≤ f then
        if !bowled && decide (rp.state = .playing) then h.squadAt q f .frameWait else House.endGame again h home q
      else if h.runOutOn r.lane then h.stopAtFrame q f
      else if rp.state = .frameWait ∧ rp.frame = f then House.swap again h q p f
      else h.squadAt q f .frameWait

/-- The place in the order of the first bowler to bowl the squad frame (R83). -/
def House.nextUp (h : House) (r : SquadRecord) : Option Nat := r.order.findIdx? fun k => h.toBowl r.frame k

/-- The bowler at a place of squad `q`'s order becomes UP (R83). -/
def House.makeUp (h : House) (q place : Nat) : House :=
  match h.squad q with
  | none => h
  | some r =>
    let k := r.order.getD place 0
    (h.setBowler k ((h.bowler k).map fun b => { b with state := .up })).setSquad q
      (some { r with upPosition := some place })

/-- The rotation of squad `q` (R83): the first bowler to bowl the squad frame is made UP, or the squad frame ends (R84).
The frames that end at once in one step are at most the ten of a game, which bounds `fuel`. -/
def House.rotate (home : Nat) : (fuel : Nat) → House → (q : Nat) → (bowled : Bool) → House
  | 0, h, _, _ => h
  | fuel + 1, h, q, bowled =>
    match h.squad q with
    | none => h
    | some r =>
      match h.nextUp r with
      | some place => h.makeUp q place
      | none => House.endSquadFrame (fun h q => House.rotate home fuel h q false) h home q bowled

/-- Fuel for a whole game's frames and the game started after it. -/
abbrev rotationFuel : Nat := 24

/-- The rotation of squad `q`, in a step whose ball or edit is on lane `home`. -/
def House.passOn (h : House) (home q : Nat) (bowled : Bool) : House := House.rotate home rotationFuel h q bowled

/-- The frame of bowler `k` of squad `q` has ended (R83): its state becomes WAITING, or DONE after frame 10; the UP
position is cleared and the rotation is made. -/
def House.bowlerFrameEnded (h : House) (home k q : Nat) (tenth : Bool) : House :=
  let h := h.setBowler k ((h.bowler k).map fun b => { b with state := if tenth then .done else .waiting })
  let h := h.setSquad q ((h.squad q).map fun r => { r with upPosition := none })
  h.passOn home q true

/-! ### Recording a ball (R51 to R60) -/

/-- The Scoring Unit records the ball of a delivery completed on lane `n`, makes the rotation, and gives back the deck need
(R60) as a cycle kind and its set. DESIGN CHOICE (log entry 37): where the pair's game ends and the carried partner's lane is
swept too, that lane's SWEEP stands before the ball's own. -/
def House.scoreBall (h : House) (n : Nat) (d : Delivery) (after : PinSet) : House × CycleKind × PinSet :=
  match h.bowler d.bowler with
  | none => (h, .sweep, noPins)
  | some b =>
    let recorded := b.sheet.record d.before after d.foul d.speed
    let h1 := h.setBowler d.bowler (some { b with sheet := recorded.1 })
    if !recorded.2 then (h1, .respot, recorded.1.owed)
    else
      let h2 := h1.bowlerFrameEnded n d.bowler b.squad (decide (b.sheet.current = 10))
      let h3 := h2.handSweeps h [otherLane n]
      if h3.gameInProgress b.squad then (h3, .newRack, fullRack) else (h3, .sweep, noPins)

/-! ### Leaving pair play (R93) and retirement (R73, R82) -/

/-- Squad `p` takes OPEN_PLAY when its partner is retired, and continues by its state (R93). -/
def House.leavePair (h : House) (p : Nat) : House :=
  match h.squad p with
  | none => h
  | some r =>
    let h := h.setSquad p (some { r with mode := .openPlay, partner := none, side := none, pairGame := 0 })
    if r.state = .frameWait then
      if 10 ≤ r.frame then House.endGame (fun h q => h.passOn 0 q false) h 0 p
      else if h.runOutOn r.lane then h.stopSquad p (.atFrame r.frame)
      else (h.squadAt p (r.frame + 1) .playing).passOn 0 p false
    else h

/-- Squad `q` is retired with all its bowler records (R82, steps 1 to 4). -/
def House.retireSquad (h : House) (q : Nat) : House :=
  match h.squad q with
  | none => h
  | some r =>
    let before := h
    let h := if r.state = .stopped then h.removeCause r.lane .allowance else h
    let h := match h.partnerOf r with
      | some (p, _) => h.leavePair p
      | none => h
    let h := r.order.foldl (fun h k => h.setBowler k none) h
    let h := h.setLane r.lane { h.lane r.lane with squad := none }
    (h.setSquad q none).handSweeps before [otherLane r.lane]

/-! ### Reports of the Tab Unit (R94, R95) -/

/-- The attached lanes of a tab, in the order of its slots. -/
def TabRecord.attachedLanes (r : TabRecord) : List Nat := (r.slots.filter (·.attached)).map (·.lane)

/-- The squads on a list of lanes. -/
def House.squadsOn (h : House) (lanes : List Nat) : List Nat := lanes.filterMap fun n => (h.lane n).squad

/-- "Run out" for the squads on a tab's attached lanes (R94): one in FORMING or GAME_DONE becomes STOPPED at AT_START. -/
def House.reportRunOut (h : House) (lanes : List Nat) : House :=
  (h.squadsOn lanes).foldl (fun h q =>
    match h.squad q with
    | some r => if r.state = .forming ∨ r.state = .gameDone then h.stopAtStart q else h
    | none => h) h

/-- A STOPPED squad loses its stop point, and its lane ALLOWANCE (R95, R96). -/
def House.unstop (h : House) (q : Nat) (state : SquadState) : House :=
  match h.squad q with
  | none => h
  | some r => (h.setSquad q (some { r with state := state, stopPoint := none })).removeCause r.lane .allowance

/-- The release of squad `q` where it is STOPPED (04 TABLE 8). -/
def House.releaseSquad (h : House) (q : Nat) : House :=
  match h.squad q with
  | none => h
  | some r =>
    match r.state, r.stopPoint with
    | .stopped, some (.atStart .forming) => h.unstop q .forming
    | .stopped, some (.atStart .gameDone) => h.unstop q .gameDone
    | .stopped, some (.atFrame f) =>
      match h.partnerOf r with
      | none => ((h.unstop q .playing).squadAt q (f + 1) .playing).passOn 0 q false
      | some (p, rp) =>
        if rp.state = .stopped ∧ rp.stopPoint = some (.atFrame f) then
          House.swap (fun h q => h.passOn 0 q false) ((h.unstop q .playing).unstop p .playing) q p f
        else h.unstop q .frameWait
    | _, _ => h

/-- Squad `q` is released from the stop it stood in at the report; one that its partner's release has taken out of that stop
is left as that release leaves it (R95). `before` is the house at the report. -/
def House.releaseFrom (before : House) (h : House) (q : Nat) : House :=
  if (h.squad q).map (·.stopPoint) = (before.squad q).map (·.stopPoint) then h.releaseSquad q else h

/-- "Lifted" for the squads on a tab's attached lanes (R95): each that is STOPPED at the report is released once. -/
def House.reportLifted (h : House) (lanes : List Nat) : House :=
  ((h.squadsOn lanes).foldl h.releaseFrom h).handSweeps h lanes

end Sys2Proof.Machine
end

