-- ==== Sys2Proof/Machine/Flags.lean ====
section
/-! DEFINITION. The discrepancy flags (chapter 6): raise records, the taking of a raise (R109), attention (R117), and the
saving and removing of the fault context (R118). -/

namespace Sys2Proof.Machine

open Sys2Proof

/-- The six discrepancy kinds in order of precedence (06 TABLE 1). -/
def discrepancies : List Discrepancy :=
  [.noReading, .pinRise, .setMismatch, .doubleBall, .earlyBall, .phantomFall]

/-- The flag of a kind. -/
def LaneRecord.flag (l : LaneRecord) (k : Discrepancy) : Bool := l.flags[k.place]

/-- The kind's mask bit: set, the kind is masked (R109). -/
def LaneRecord.masked (l : LaneRecord) (k : Discrepancy) : Bool := l.mask[k.place]

/-- The raise record of a kind. -/
def LaneRecord.raised (l : LaneRecord) (k : Discrepancy) : Option RaiseRecord := l.raises[k.place]

/-- The kind holds the lane: its flag is set with its mask bit clear. -/
def LaneRecord.holds (l : LaneRecord) (k : Discrepancy) : Bool := l.flag k && !l.masked k

/-- Attention is on while some flag is set with its mask bit clear (R117). -/
def LaneRecord.attention (l : LaneRecord) : Bool := discrepancies.any l.holds

/-- The kind of highest precedence among those set with mask clear (R118). -/
def LaneRecord.contextKind (l : LaneRecord) : Option Discrepancy := discrepancies.find? l.holds

/-- The fault context to be saved (R118): the raise record of the kind chosen, whose holds delivery mark is yes only where
this step froze a delivery by that kind. -/
def LaneRecord.newContext (l : LaneRecord) (froze : Option Discrepancy) : Option RaiseRecord :=
  match l.contextKind with
  | none => none
  | some k => (l.raised k).map fun r => { r with holdsDelivery := decide (froze = some k) }

/-- Attention of lane `n` is recomputed (R117). Turned on, or on with the context gone, the context is saved and ATTENTION
added; turned off, the context is removed and ATTENTION with it (R118). -/
def House.settleAttention (h : House) (n : Nat) (froze : Option Discrepancy := none) : House :=
  let l := h.lane n
  if l.attention then
    if l.context.isSome then h
    else (h.setLane n { l with context := l.newContext froze }).addCause n .attention
  else (h.setLane n { l with context := none }).removeCause n .attention

/-- The recovery that follows the removal of a fault context of a LIVE or HELD lane, once the step's other actions have been
taken: it is started where the deck is EMPTY with no delivery and no cycle in flight (R118). -/
def House.recoverEmpty (h : House) (n : Nat) : House :=
  let l := h.lane n
  if l.playing && decide (l.deck = .empty) && !l.busy then h.startRecovery n else h

/-! ### Raise records (06 TABLE 2) -/

/-- A raise record with a kind and the clock time, and nothing else. -/
def House.bareRaise (h : House) (k : Discrepancy) : RaiseRecord :=
  { kind := k, bowler := none, frame := none, ballIndex := none, before := none, reading := none, cycleKind := none,
    commanded := none, time := h.stamp, holdsDelivery := false }

/-- The raise record with bowler `k`, its current frame and the place its ball takes in it, as the Scoring Unit supplies
them. -/
def House.withBowler (h : House) (r : RaiseRecord) (k : Nat) : RaiseRecord :=
  match h.bowler k with
  | none => { r with bowler := some k }
  | some b =>
    { r with bowler := some k, frame := some b.sheet.current,
             ballIndex := some ((b.sheet.frame b.sheet.current).balls.length + 1) }

/-- The raise record of NO_READING, PIN_RISE and DOUBLE_BALL: of the delivery in flight. -/
def House.deliveryRaise (h : House) (k : Discrepancy) (d : Delivery) (reading : Option PinSet) : RaiseRecord :=
  h.withBowler { h.bareRaise k with before := some d.before, reading := reading } d.bowler

/-- The raise record of EARLY_BALL and PHANTOM_FALL: of the UP bowler, if any, and the lane's standing set. -/
def House.laneRaise (h : House) (k : Discrepancy) (n : Nat) (reading : Option PinSet) (cycle : Option CycleKind) :
    RaiseRecord :=
  let r := { h.bareRaise k with before := some (h.lane n).standing, reading := reading, cycleKind := cycle }
  match h.upOn n with
  | some b => h.withBowler r b
  | none => r

/-- The raise record of SET_MISMATCH: of the cycle verified and its verification reading. -/
def House.cycleRaise (h : House) (c : DeckCycle) (reading : PinSet) : RaiseRecord :=
  { h.bareRaise .setMismatch with reading := some reading, cycleKind := some c.kind, commanded := c.commanded }

/-! ### The raise (R109) -/

/-- Steps 1 and 2 of a raise (R109): the kind's flag is set and its raise record written afresh. -/
def LaneRecord.note (l : LaneRecord) (r : RaiseRecord) : LaneRecord :=
  { l with flags := l.flags.set r.kind.place true, raises := l.raises.set r.kind.place (some r) }

/-- A raise on lane `n` (R109): the flag and the raise record, then the default action of a masked kind or what holds for
an unmasked one, then attention. `freezes` says that the unmasked kind freezes the delivery in flight. -/
def House.raiseDiscrepancy (h : House) (n : Nat) (r : RaiseRecord) (freezes : Bool)
    (whenMasked whenUnmasked : House → House) : House :=
  let h := h.setLane n ((h.lane n).note r)
  if (h.lane n).masked r.kind then (whenMasked h).settleAttention n
  else (whenUnmasked h).settleAttention n (if freezes then some r.kind else none)

/-- The flags of some kinds cleared, with their raise records (R121, R123). -/
def LaneRecord.clearKinds (l : LaneRecord) (kinds : List Discrepancy) : LaneRecord :=
  kinds.foldl (fun l k => { l with flags := l.flags.set k.place false, raises := l.raises.set k.place none }) l

/-- The delivery in flight frozen: its reading deadline is removed (R119). -/
def LaneRecord.freeze (l : LaneRecord) : LaneRecord :=
  { l with delivery := l.delivery.map fun d => { d with frozen := true, deadline := none } }

/-- The frozen delivery of lane `n` is dropped as VOID drops it: unscored, and deck recovery is started (R122). -/
def House.voidDelivery (h : House) (n : Nat) : House := (h.setLane n (h.lane n).dropDelivery).startRecovery n

end Sys2Proof.Machine
end

