-- ==== Sys2Proof/Machine/Deck.lean ====
section
/-! DEFINITION. The pin deck (chapter 2, with the default actions of chapter 6): waking a lane, deliveries and their
completion, the ends of a cycle, deck recovery's second step, and the closing of a lane (R11, R15 to R19). -/

namespace Sys2Proof.Machine

open Sys2Proof

/-! ### Waking (R11) -/

/-- The warm-up timer of lane `n` is started from the lane's warm-up timeout (R11). -/
def House.startWarmUp (h : House) (n : Nat) : House :=
  h.setLane n { h.lane n with warmUp := some (h.now + (h.lane n).options.warmUpTimeout * 10) }

/-- A wake is started on lane `n` (R11): WARMING, POWER_ON, the warm-up timer, and the CALL question of R8. -/
def House.startWake (h : House) (n : Nat) : House :=
  let h := h.setLane n { h.lane n with mode := .warming }
  let h := ((h.giveOrder n .powerOn).startWarmUp n).report n
  if h.blocked n then h.addCause n .call else h

/-! ### Completing a delivery (R35) -/

/-- A delivery of lane `n` is completed with its standing-after set (R35): the ball is scored, and the cycle the Scoring Unit
names is ordered, or the recovery owed begins in its place. -/
def House.completeDelivery (h : House) (n : Nat) (after : PinSet) : House :=
  match (h.lane n).delivery with
  | none => h
  | some d =>
    let h := h.setLane n { h.lane n with delivery := none, standing := after }
    let scored := h.scoreBall n d after
    let h := scored.1
    if (h.lane n).recoveryOwed then h.beginRecovery n else h.orderCycle n scored.2.1 scored.2.2

/-! ### A ball seen (R28, R29) -/

/-- How a delivery begun now on a lane is read (R28). -/
def LaneRecord.manner (l : LaneRecord) : Manner :=
  if l.capabilities.camera && !l.options.manualScoring then .read else .manual

/-- A delivery begins on lane `n` with bowler `k` UP (R28). -/
def House.beginDelivery (h : House) (n k : Nat) (speed : Option Half) : House :=
  let l := h.lane n
  let d : Delivery :=
    { bowler := k, before := l.standing, foul := l.foulMark.isSome, seen := h.now, speed := speed, manner := l.manner,
      deadline := if l.manner = .read then some (h.now + l.options.readingTimeout) else none, reRead := false,
      frozen := false }
  h.setLane n { l with delivery := some d, deck := .delivery, foulMark := none }

/-- DOUBLE_BALL (R114): masked, nothing further is done; unmasked, the delivery goes on. -/
def House.doubleBall (h : House) (n : Nat) (d : Delivery) : House :=
  h.raiseDiscrepancy n (h.deliveryRaise .doubleBall d none) false id id

/-- EARLY_BALL (R115): masked, a cycle in flight is owed a repeat. -/
def House.earlyBall (h : House) (n : Nat) : House :=
  h.raiseDiscrepancy n (h.laneRaise .earlyBall n none ((h.lane n).cycle.map (·.kind))) false
    (fun h => if (h.lane n).cycle.isSome then h.setLane n { h.lane n with repeatOwed := true } else h) id

/-- A BALL_SEEN on a LIVE or HELD lane (R28, R29): it begins a delivery, or it is a discrepancy and spends any foul mark
pending. -/
def House.playedBall (h : House) (n : Nat) (speed : Option Half) : House :=
  let l := h.lane n
  match decide (l.mode = .live), l.deck, h.upOn n, l.delivery with
  | true, .ready, some k, _ => h.beginDelivery n k speed
  | true, .delivery, _, some d => (h.setLane n { l with foulMark := none }).doubleBall n d
  | _, _, _, _ => (h.setLane n { l with foulMark := none }).earlyBall n

/-! ### A deck reading (R32, R33) -/

/-- PIN_RISE (R112): masked, the ball is completed with the risen pins left out; unmasked, the delivery is frozen. -/
def House.pinRise (h : House) (n : Nat) (d : Delivery) (reading : PinSet) : House :=
  h.raiseDiscrepancy n (h.deliveryRaise .pinRise d (some reading)) true
    (fun h => h.completeDelivery n (reading &&& d.before)) (fun h => h.setLane n (h.lane n).freeze)

/-- PHANTOM_FALL (R116): the standing set is kept in either case. -/
def House.phantomFall (h : House) (n : Nat) (reading : PinSet) : House :=
  h.raiseDiscrepancy n (h.laneRaise .phantomFall n (some reading) none) false id id

/-- A reading given to the fault context that holds a frozen delivery (R119). -/
def giveReading (c : Option RaiseRecord) (reading : PinSet) : Option RaiseRecord :=
  c.map fun r => if r.holdsDelivery then { r with reading := some reading } else r

/-- A DECK_READ on a LIVE or HELD lane (R32, R33, R119). -/
def House.readDeck (h : House) (n : Nat) (reading : PinSet) : House :=
  let l := h.lane n
  match l.delivery with
  | some d =>
    if d.manner = .manual then h
    else if d.frozen then h.setLane n { l with context := giveReading l.context reading }
    else if pinsWithin reading d.before then h.completeDelivery n reading
    else h.pinRise n d reading
  | none =>
    if l.cycle.isSome then h
    else if pinsWithin l.standing reading then h
    else h.phantomFall n reading

/-! ### The reading deadline (R34, R111) -/

/-- NO_READING (R111): masked, a re-read is ordered with a new deadline; unmasked, the delivery is frozen. -/
def House.noReading (h : House) (n : Nat) (d : Delivery) : House :=
  let h := h.setLane n { h.lane n with delivery := some { d with deadline := none } }
  h.raiseDiscrepancy n (h.deliveryRaise .noReading d none) true
    (fun h => (h.setLane n { h.lane n with
      delivery := some { d with reRead := true, deadline := some (h.now + (h.lane n).options.readingTimeout) } }).giveOrder
        n .reRead)
    (fun h => h.setLane n (h.lane n).freeze)

/-- The second expiry of a reading deadline (R111): a READER_FAIL call, the delivery dropped, the deck EMPTY, and any
recovery owed taken up (R44). -/
def House.readerFail (h : House) (n : Nat) : House :=
  let owed := (h.lane n).recoveryOwed
  let h := h.raiseCall n .readerFail
  let h := h.setLane n { (h.lane n).dropDelivery with recoveryOwed := false }
  if owed then h.startRecovery n else h

/-! ### The ends of a cycle (R39 to R46) -/

/-- The second step of deck recovery (R45): the lane's expected deck is asked for and its cycle ordered. -/
def House.recoverySecond (h : House) (n : Nat) : House :=
  match h.expectedDeck n with
  | some (pins, start) => if start || decide (pins = fullRack) then h.orderCycle n .newRack fullRack
      else h.orderCycle n .respot pins
  | none => h.orderCycle n .sweep noPins

/-- The cycle of lane `n` has left its commanded set (R39): the standing set and the deck state follow the kind. A repeat owed
by an EARLY_BALL orders a NEW_RACK or RESPOT again (R115). -/
def House.cyclePassed (h : House) (n : Nat) (c : DeckCycle) : House :=
  let l := h.lane n
  let left := c.commanded.getD noPins
  let ended := { l with cycle := none, standing := left, repeatOwed := false }
  match c.kind with
  | .newRack | .respot =>
    let h' := h.setLane n { ended with deck := .ready }
    if l.repeatOwed then h'.orderCycle n c.kind left else h'
  | .sweep => h.setLane n { ended with deck := .idle }
  | .resetMachine => (h.setLane n ended).recoverySecond n

/-- A verification reading that differs from the commanded set (R39, R113): a first failure raises SET_MISMATCH, a failed
retry a SET_FAIL call. -/
def House.cycleFailed (h : House) (n : Nat) (c : DeckCycle) (reading : PinSet) : House :=
  if c.retry then (h.setLane n (h.lane n).dropCycle).raiseCall n .setFail
  else
    let h := h.setLane n { h.lane n with cycle := none, repeatOwed := false }
    h.raiseDiscrepancy n (h.cycleRaise c reading) false
      (fun h => h.orderCycle n c.kind (c.commanded.getD noPins) true)
      (fun h => h.setLane n { h.lane n with deck := .empty, standing := noPins })

/-- The verification reading to be checked (R39): the lane holds CAMERA, the kind is NEW_RACK or RESPOT, and the event
carries one. -/
def verifies (l : LaneRecord) (c : DeckCycle) (verification : Option PinSet) : Option PinSet :=
  if l.capabilities.camera && (decide (c.kind = .newRack) || decide (c.kind = .respot)) then verification else none

/-- A CYCLE_DONE on a LIVE or HELD lane (R39, R40). -/
def House.finishCycle (h : House) (n : Nat) (verification : Option PinSet) : House :=
  let l := h.lane n
  match l.cycle with
  | none => h
  | some c =>
    match verifies l c verification with
    | some reading => if c.commanded = some reading then h.cyclePassed n c else h.cycleFailed n c reading
    | none => h.cyclePassed n c

/-! ### Closing (R17 to R19) -/

/-- The sweeping stage of a CLOSING lane whose deck was left holding a set (R17): with no delivery and no cycle in flight
SWEEP is ordered, where the pair's module is present. Until it ends the standing set is the set left (R27). -/
def House.sweepFrom (h : House) (n : Nat) (left : PinSet) : House :=
  if (h.lane n).busy || !h.modulePresent n then h
  else (h.setLane n { h.lane n with standing := left }).orderCycle n .sweep noPins

/-- The sweeping stage of a CLOSING lane whose standing set stays as it is (R17). -/
def House.sweepStage (h : House) (n : Nat) : House := h.sweepFrom n (h.lane n).standing

/-- The power-off step (R17): POWER_OFF is ordered and the lane is DARK with its deck EMPTY. -/
def House.powerOffStep (h : House) (n : Nat) : House :=
  (h.setLane n { h.lane n with mode := .dark, cycle := none, deck := .empty, standing := noPins }).giveOrder n .powerOff

/-- A cycle of a CLOSING lane ends and leaves a set (R17, R27): the power-off step where it was a SWEEP (log entry 13), the
sweeping stage otherwise. -/
def House.closingCycleEnds (h : House) (n : Nat) (c : DeckCycle) (left : PinSet) : House :=
  if c.kind = .sweep then h.powerOffStep n else (h.setLane n (h.lane n).dropCycle).sweepFrom n left

/-- An unscored delivery of a CLOSING lane ends (R17). DESIGN CHOICE (log entry 31): the manual gives no standing set after
it; the model takes {}, the pins not being known. -/
def House.closingDeliveryEnds (h : House) (n : Nat) : House := (h.setLane n (h.lane n).dropDelivery).sweepStage n

/-- The delivery that stays in flight on entry to CLOSING (R17): a frozen one, or one awaiting MANUAL ENTRY, is dropped. -/
def keptOnClosing (d : Option Delivery) : Option Delivery :=
  match d with
  | some d => if d.frozen || decide (d.manner = .manual) then none else some d
  | none => none

/-- The lane record on entry to CLOSING (R17): causes, flags and context cleared, marks dropped, the mask kept. DESIGN CHOICE
(log entry 31): a frozen or MANUAL delivery dropped here leaves the deck EMPTY with standing set {}. -/
def LaneRecord.enterClosing (l : LaneRecord) : LaneRecord :=
  let kept := keptOnClosing l.delivery
  let dropped := l.delivery.isSome && kept.isNone
  { l with mode := .closing, causes := .none, flags := Vector.replicate 6 false, raises := Vector.replicate 6 none,
           context := none, foulMark := none, recoveryOwed := false, repeatOwed := false, delivery := kept,
           deck := if dropped then .empty else l.deck, standing := if dropped then noPins else l.standing }

/-- The Scoring Unit is told to retire the squad on lane `n`, if there is one (R17, R18). -/
def House.retireOn (h : House) (n : Nat) : House :=
  match (h.lane n).squad with
  | some q => h.retireSquad q
  | none => h

/-- A WARMING lane whose tab field is cleared passes through CLOSING to DARK in one step (R18). -/
def LaneRecord.warmingCloses (l : LaneRecord) : LaneRecord :=
  { l with mode := .dark, causes := .none, warmUp := none }

/-- The tab field of lane `n` has been cleared: its closing begins (R17, R18). A DARK lane stays DARK. -/
def House.beginClosing (h : House) (n : Nat) : House :=
  let l := h.lane n
  if l.playing then ((h.setLane n l.enterClosing).retireOn n).sweepStage n
  else if l.mode = .warming then ((h.setLane n l.warmingCloses).retireOn n).giveOrder n .powerOff
  else h

/-! ### Coming up (R15) -/

/-- The first cycle of a lane that comes up (R15): RESPOT where the UP bowler has a frame begun, NEW_RACK otherwise. -/
def House.firstCycle (h : House) (n : Nat) : House :=
  match h.expectedDeck n with
  | some (pins, false) => h.orderCycle n .respot pins
  | _ => h.orderCycle n .newRack fullRack

/-- READY on a WARMING lane (R15): the lane comes up LIVE or HELD, its deck is set, and a WAKE_FAIL call is retired without
clearing (R149). -/
def House.comeUp (h : House) (n : Nat) : House :=
  let l := h.lane n
  let h := (h.setLane n { l with warmUp := none, mode := if l.causes.isNone then .live else .held }).report n
  (h.firstCycle n).retireWakeFail n

/-- POWER_ON is ordered for lane `n` and a new warm-up timer started (R9, R16). -/
def House.warmAgain (h : House) (n : Nat) : House := (h.giveOrder n .powerOn).startWarmUp n

end Sys2Proof.Machine
end

