-- ==== Sys2Proof/Machine/Returns.lean ====
section
/-! DEFINITION. The Return Monitor (chapter 7): balls counted out and back, the return deadline, the return jam and its
end. -/

namespace Sys2Proof.Machine

open Sys2Proof

/-- RETURN_JAM is raised for pair `p` (R130): the Call Queue takes it for the pair, and in NORMAL the state becomes JAMMED
with its cause and the deadline is removed. -/
def House.raiseJam (h : House) (p : Nat) (cause : JamCause) : House :=
  let r := h.ret p
  let h := if r.jam.isNone then h.setRet p { r with jam := some cause, deadline := none } else h
  h.raiseCall (oddLane p) .returnJam

/-- The expiry of a return deadline (R129): the deadline is removed and RETURN_JAM raised with cause TIMEOUT. -/
def House.returnExpires (h : House) (p : Nat) : House :=
  (h.setRet p { h.ret p with deadline := none }).raiseJam p .timeout

/-- The return deadline of pair `p` is set for the entry at the head, in NORMAL (R129). One that has already been reached is
taken in the same step by its expiry. -/
def House.setReturnDeadline (h : House) (p : Nat) : House :=
  let r := h.ret p
  match r.jam, r.outstanding with
  | none, e :: _ =>
    let deadline := e.seen + r.timeout * 10
    let h := h.setRet p { r with deadline := some deadline }
    if deadline ≤ h.now then h.returnExpires p else h
  | _, _ => h

/-- A ball seen on lane `n`, in a mode, is counted out (R127). -/
def House.countOut (h : House) (n : Nat) (mode : Mode) : House :=
  let p := pairOf n
  let r := h.ret p
  match mode with
  | .live | .held | .closing =>
    if r.outstanding.length < Config.outstandingRoom then
      let h := h.setRet p { r with outstanding := r.outstanding ++ [{ lane := n, seen := h.now }] }
      if r.outstanding.isEmpty then h.setReturnDeadline p else h
    else h.raiseJam p .full
  | .out | .dark | .warming => h

/-- A ball counted back into the return of pair `p` (R128). -/
def House.countBack (h : House) (p : Nat) : House :=
  let r := h.ret p
  match r.outstanding with
  | [] => h
  | _ :: rest => (h.setRet p { r with outstanding := rest, deadline := none }).setReturnDeadline p

/-- The outstanding list of pair `p` is emptied and its deadline removed; the state and the jam cause are kept (R132,
R134). -/
def House.emptyReturn (h : House) (p : Nat) : House :=
  h.setRet p { h.ret p with outstanding := [], deadline := none }

/-- The Return Monitor is told that the RETURN_JAM of pair `p` has been cleared (R131). -/
def House.endJam (h : House) (p : Nat) : House :=
  h.setRet p { h.ret p with outstanding := [], deadline := none, jam := none }

/-- What a clearing of kind `k` on lane `n` does after the call or kind has been removed (R148). `before` holds the blocking
presence of the lanes concerned before the removal. DESIGN CHOICE (log entry 37): of a RETURN_JAM's two lanes the odd one's
recovery is started first. -/
def House.clearingEffects (h : House) (n : Nat) (k : CallKind) (before : List (Nat × Bool)) : House :=
  if isBlocking k then
    let h := if k = .returnJam then h.endJam (pairOf n) else h
    let h := before.foldl (fun h nb => h.followCall nb.1 nb.2) h
    (lanesConcerned n k).foldl House.startRecovery h
  else if k = .wakeFail ∧ (h.lane n).mode = .warming ∧ h.modulePresent n = true then h.warmAgain n
  else h

/-- The blocking presence of the lanes a kind of lane `n` concerns, before it is removed. -/
def House.presenceBefore (h : House) (n : Nat) (k : CallKind) : List (Nat × Bool) :=
  (lanesConcerned n k).map fun m => (m, h.blocked m)

/-- A call of the queue retires by clearing (R147): its removal, the effects of its kind, and the filling of the freed
place. -/
def House.clearQueued (h : House) (c : CallRecord) : House :=
  ((h.removeCall c.number).clearingEffects c.lane c.kind (h.presenceBefore c.lane c.kind)).fillQueue

/-- A kind of lane `n`'s unqueued set retires by clearing (R147). It frees no place, and no kind enters on it (R140). -/
def House.clearUnqueued (h : House) (n : Nat) (k : CallKind) : House :=
  (h.setUnqueued n ((h.unqueued n).leave k)).clearingEffects n k (h.presenceBefore n k)

end Sys2Proof.Machine
end

