-- ==== Sys2Proof/Machine/Presence.lean ====
section
/-! DEFINITION. The presence of the modules (R9, R19, R47, R48, R134, R178), the attention summary (R177), and the two ways
a command becomes a step: a request, which is answered, and an event, which is not. -/

namespace Sys2Proof.Machine

open Sys2Proof

/-! ### Absence -/

/-- A CLOSING lane whose module is declared absent (R19): its work in flight is dropped and its deck is EMPTY. -/
def LaneRecord.closingLost (l : LaneRecord) : LaneRecord :=
  { l with delivery := none, cycle := none, repeatOwed := false, deck := .empty, standing := noPins }

/-- What the absence of its module does to lane `n` (R9, R19, R47). -/
def House.laneLost (h : House) (n : Nat) : House :=
  match (h.lane n).mode with
  | .live | .held => h.addCause n .link
  | .warming => (h.setLane n { h.lane n with warmUp := none }).addCause n .link
  | .closing => h.setLane n (h.lane n).closingLost
  | .out | .dark => h

/-- The module of pair `p` is declared absent (R178): its mark, count and buffer, the two lanes, and the return deadline
(R134). A poll of it still owed an answer carries no order of the emptied buffer. -/
def House.declareAbsent (h : House) (p : Nat) : House :=
  let h := h.setSlot p { h.slot p with present := false, unanswered := 0, orders := [], overflowed := false }
  let h := { h with machine := { h.machine with
      pollOut := h.machine.pollOut.map fun o => if o.pair = p then { o with carried := 0 } else o } }
  let h := (lanesOf p).foldl House.laneLost h
  h.setRet p { h.ret p with deadline := none }

/-- At the end of a step, each module whose full buffer an order of the step found is declared absent (R178, R47, log
entry 8). -/
def House.declareOverflows (h : House) : House :=
  (numbers Config.pairs).foldl (fun h p => if (h.slot p).overflowed then h.declareAbsent p else h) h

/-! ### PRESENT (R9, R48, R134, R179) -/

/-- The module's capabilities written into its slot and both lanes of its pair (R1, R48, R179). -/
def House.writeCapabilities (h : House) (p : Nat) (c : Capabilities) : House :=
  let h := h.setSlot p { h.slot p with capabilities := c }
  (lanesOf p).foldl (fun h n => h.setLane n { h.lane n with capabilities := c }) h

/-- What a returned module's PRESENT orders for lane `n` (R9, R19, R48). `lost` says that the lane held LINK. -/
def House.laneReturns (h : House) (n : Nat) (lost : Bool) : House :=
  match (h.lane n).mode with
  | .live | .held => if lost then (h.giveOrder n .powerOn).startRecovery n else h
  | .warming => if lost then h.warmAgain n else h
  | .closing => h.sweepStage n
  | .out | .dark => h.giveOrder n .powerOff

/-- An absent module of pair `p` is declared present (R179): LINK is removed from the lanes that hold it, each lane has its
orders by R9, and the outstanding list is emptied by R134. DESIGN CHOICE (log entry 37): the odd lane's orders stand before
the even lane's in the module's buffer. -/
def House.declarePresent (h : House) (p : Nat) : House :=
  let h := h.setSlot p { h.slot p with present := true }
  let lost := (lanesOf p).map fun n => (n, (h.lane n).causes.link)
  let h := lost.foldl (fun h nl => if nl.2 then h.removeCause nl.1 .link else h) h
  let h := lost.foldl (fun h nl => h.laneReturns nl.1 nl.2) h
  h.emptyReturn p

/-- A PRESENT event of the module of pair `p` (R48): of a present module it changes the capabilities alone. -/
def House.takePresent (h : House) (p : Nat) (c : Capabilities) : House :=
  if !isPair p then h
  else
    let absent := !(h.slot p).present
    let h := h.writeCapabilities p c
    if absent then h.declarePresent p else h

/-! ### The attention summary (R177) -/

/-- The numbers of a bank, in ascending order, for which a condition holds. -/
def numbersWhere (n : Nat) (condition : Nat → Bool) : List Nat := (numbers n).filter condition

/-- The attention summary as the records give it (R177). -/
def House.formSummary (h : House) : Summary :=
  { attention := numbersWhere Config.lanes fun n => (h.lane n).causes.attention,
    restart := numbersWhere Config.lanes fun n => (h.lane n).causes.restart,
    warnings := numbersWhere Config.tabs fun t => match h.tab t with
      | some r => decide (r.warning = .set)
      | none => false,
    missing := numbersWhere Config.pairs fun p =>
      !(h.slot p).present && (lanesOf p).any fun n => (h.lane n).tab.isSome }

/-- All four lists of a summary are empty (R177). -/
def Summary.isNone (m : Summary) : Bool :=
  m.attention.isEmpty && m.restart.isEmpty && m.warnings.isEmpty && m.missing.isEmpty

/-- The summary and the ATTN line written afresh from the records (R177). -/
def House.refreshSummary (h : House) : House :=
  let m := h.formSummary
  { h with port := { h.port with summary := m, attn := !m.isNone } }

/-- The end of every step: modules that stopped taking orders are declared absent, and the attention summary follows the
records. -/
def House.settle (h : House) : House := h.declareOverflows.refreshSummary

/-! ### Steps -/

/-- An answer goes to the house link (R176). -/
def House.answer (h : House) (a : Answer) : House :=
  { h with port := { h.port with answers := h.port.answers ++ [a] } }

/-- The house after a request and the answer its owning unit gives (R176). A bad origin is refused by the header checks. -/
def House.takeRequest (h : House) (header : Header) (unit : House → Reply) : House :=
  let r := if originInRange header.origin then unit h else refuse h .badRequest
  (r.house.answer { sequence := header.sequence, result := r.verdict, body := r.body }).settle

/-- A request taken as a step. While the part takes no frame (R181) the request has no effect and no answer. -/
def request (header : Header) (unit : House → Reply) (s : State) : Result :=
  .next (if s.house.takesFrames then s.withHouse (s.house.takeRequest header unit) else s)

/-- An event taken as a step while the part runs (R181). -/
def event (effect : House → House) (s : State) : Result :=
  .next (if s.house.runs then s.withHouse (effect s.house).settle else s)

/-- A module event of pair `p` taken as a step: the events of an absent module are discarded (R179). -/
def moduleEvent (p : Nat) (effect : House → House) (s : State) : Result :=
  event (fun h => if (h.slot p).present then effect h else h) s

end Sys2Proof.Machine
end

