-- ==== Sys2Proof/Machine/LaneRequests.lean ====
section
/-! DEFINITION. The requests on lanes (chapters 1 and 2), codes 1 to 10: the Lane Unit's checks in the order of each rule,
and the meanings of the commands. -/

namespace Sys2Proof.Machine

open Sys2Proof

/-! ### LANE STATUS (R2) -/

/-- The present record of a lane as LANE STATUS answers it (R2). -/
def laneStatusBody (l : LaneRecord) : LaneStatusBody :=
  { mode := l.mode, causes := l.causes, deck := l.deck, standing := l.standing,
    deliveryInFlight := l.delivery.isSome, frozen := l.frozen, recoveryOwed := l.recoveryOwed,
    cycleKind := l.cycle.map (·.kind), flags := l.flags, mask := l.mask, options := l.options, tab := l.tab,
    squad := l.squad, capabilities := l.capabilities }

/-- LANE STATUS at the Lane Unit (R2). -/
def laneStatus (o : Origin) (n : Nat) (h : House) : Reply :=
  if !isLane n then refuse h .noRecord
  else if !mayReadLane n o then refuse h .notYours
  else doneWith h (.laneStatus (laneStatusBody (h.lane n)))

/-- LANE_STATUS (R2). -/
def execLaneStatus (header : Header) (lane : Nat) (s : State) : Result :=
  request header (laneStatus header.origin lane) s

/-! ### SET LANE OPTIONS (R3) -/

/-- The options with those the request names written, each timeout clamped to its range (R3, 01 TABLE 2). -/
def writeOptions (l : LaneOptions) (e : LaneOptionsEdit) : LaneOptions :=
  { consoleWake := e.consoleWake.getD l.consoleWake, pitCall := e.pitCall.getD l.pitCall,
    consoleEdits := e.consoleEdits.getD l.consoleEdits,
    consoleCorrections := e.consoleCorrections.getD l.consoleCorrections,
    manualScoring := e.manualScoring.getD l.manualScoring,
    readingTimeout := clampOr 20 150 l.readingTimeout e.readingTimeout,
    cycleTimeout := clampOr 50 400 l.cycleTimeout e.cycleTimeout,
    warmUpTimeout := clampOr 30 180 l.warmUpTimeout e.warmUpTimeout }

/-- Some timeout of the request lies outside its range (R3). -/
def optionsClamped (e : LaneOptionsEdit) : Bool :=
  optionClamped 20 150 e.readingTimeout || optionClamped 50 400 e.cycleTimeout || optionClamped 30 180 e.warmUpTimeout

/-- SET LANE OPTIONS at the Lane Unit (R3). -/
def setLaneOptions (o : Origin) (n : Nat) (e : LaneOptionsEdit) (h : House) : Reply :=
  if !isLane n then refuse h .noRecord
  else if !isDesk o then refuse h .notYours
  else doneOrClamped (optionsClamped e) (h.setLane n { h.lane n with options := writeOptions (h.lane n).options e })

/-- SET_LANE_OPTIONS (R3). -/
def execSetLaneOptions (header : Header) (lane : Nat) (edit : LaneOptionsEdit) (s : State) : Result :=
  request header (setLaneOptions header.origin lane edit) s

/-! ### DESK HOLD and DESK RELEASE (R10) -/

/-- DESK HOLD at the Lane Unit (R10). -/
def deskHold (o : Origin) (n : Nat) (h : House) : Reply :=
  if !isLane n then refuse h .noRecord
  else if !isDesk o then refuse h .notYours
  else if !(h.lane n).keepsCauses then refuse h .wrongState
  else if (h.lane n).causes.desk then done h
  else done (h.addCause n .desk)

/-- DESK_HOLD (R10). -/
def execDeskHold (header : Header) (lane : Nat) (s : State) : Result := request header (deskHold header.origin lane) s

/-- DESK RELEASE at the Lane Unit (R10). The release of RESTART starts deck recovery, which R44 leaves to the removal of LINK
where the lane holds it. -/
def deskRelease (o : Origin) (n : Nat) (cause : Option HoldCause) (h : House) : Reply :=
  if !isLane n then refuse h .noRecord
  else if !isDesk o then refuse h .notYours
  else
    match cause with
    | some .desk =>
      if (h.lane n).causes.desk then done (h.removeCause n .desk) else refuse h .wrongState
    | some .restart =>
      if (h.lane n).causes.restart then done ((h.removeCause n .restart).startRecovery n) else refuse h .wrongState
    | _ => refuse h .badRequest

/-- DESK_RELEASE (R10). -/
def execDeskRelease (header : Header) (lane : Nat) (cause : Option HoldCause) (s : State) : Result :=
  request header (deskRelease header.origin lane cause) s

/-! ### WAKE (R12, R13) -/

/-- A wake asked for a DARK lane (R12, R13): `allowed` is the console wake option where a console asks, and `verdict` the
answer to a wake that is started. -/
def wakeDark (n : Nat) (allowed : Bool) (verdict : Verdict) (h : House) : Reply :=
  if (h.lane n).tab.isNone then refuse h .wrongState
  else if !allowed then refuse h .wrongState
  else if !h.modulePresent n then refuse h .noMachine
  else ⟨h.startWake n, verdict, .empty⟩

/-- A wake or a start asked for a lane that is not playing (R12, R13). -/
def wakeAsleep (n : Nat) (allowed : Bool) (verdict : Verdict) (h : House) : Reply :=
  match (h.lane n).mode with
  | .dark => wakeDark n allowed verdict h
  | .warming => ⟨h, .waking, .empty⟩
  | _ => refuse h .wrongState

/-- WAKE at the Lane Unit (R12, R13). -/
def wakeLane (o : Origin) (n : Nat) (h : House) : Reply :=
  if !isLane n then refuse h .noRecord
  else if !deskOrOwnConsole n o then refuse h .notYours
  else if (h.lane n).playing then done h
  else if isDesk o then wakeAsleep n true .done h
  else wakeAsleep n (h.lane n).options.consoleWake .waking h

/-- WAKE (R12, R13). -/
def execWake (header : Header) (lane : Nat) (s : State) : Result := request header (wakeLane header.origin lane) s

/-! ### LANE OUT and LANE IN (R20) -/

/-- LANE OUT at the Lane Unit (R20). -/
def laneOut (o : Origin) (n : Nat) (h : House) : Reply :=
  if !isLane n then refuse h .noRecord
  else if !isDesk o then refuse h .notYours
  else
    match (h.lane n).mode with
    | .out => done h
    | .dark =>
      if (h.lane n).tab.isSome then refuse h .inUse else done (h.setLane n { h.lane n with mode := .out })
    | _ => refuse h .wrongState

/-- LANE_OUT (R20). -/
def execLaneOut (header : Header) (lane : Nat) (s : State) : Result := request header (laneOut header.origin lane) s

/-- LANE IN at the Lane Unit (R20). -/
def laneIn (o : Origin) (n : Nat) (h : House) : Reply :=
  if !isLane n then refuse h .noRecord
  else if !isDesk o then refuse h .notYours
  else if (h.lane n).mode = .out then done (h.setLane n { h.lane n with mode := .dark })
  else refuse h .wrongState

/-- LANE_IN (R20). -/
def execLaneIn (header : Header) (lane : Nat) (s : State) : Result := request header (laneIn header.origin lane) s

/-! ### LANE RESET (R21) -/

/-- The lane record with the work that LANE RESET drops (R21): delivery, cycle and foul mark pending, and the marks that go
with them; a deck that had work in flight is EMPTY until recovery orders its first step. -/
def LaneRecord.resetWork (l : LaneRecord) : LaneRecord :=
  { l with delivery := none, cycle := none, foulMark := none, repeatOwed := false, recoveryOwed := false,
           context := releaseContext l.context,
           deck := if l.busy then .empty else l.deck, standing := if l.busy then noPins else l.standing }

/-- LANE RESET at the Lane Unit (R21). -/
def laneReset (o : Origin) (n : Nat) (h : House) : Reply :=
  if !isLane n then refuse h .noRecord
  else if !isDesk o then refuse h .notYours
  else if !(h.lane n).playing then refuse h .wrongState
  else if (h.lane n).causes.link || !h.modulePresent n then refuse h .noMachine
  else done ((h.setLane n (h.lane n).resetWork).startRecovery n)

/-- LANE_RESET (R21). -/
def execLaneReset (header : Header) (lane : Nat) (s : State) : Result := request header (laneReset header.origin lane) s

/-! ### MOVE (R22) -/

/-- The tab's slot for lane `a` rebound to lane `b` (R22): its seconds stay in it, and its condition is IDLE (R166). -/
def rebindSlot (r : TabRecord) (a b : Nat) : TabRecord :=
  { r with slots := r.slots.map fun m =>
      if m.lane = a then { m with lane := b, attached := true, condition := some .idle } else m }

/-- What an accepted MOVE does (R22): squad and tab are carried to lane `b`, it is woken, and lane `a` closes with nothing to
retire. A STOPPED squad brings ALLOWANCE to its new lane (R96). -/
def House.moveSquad (h : House) (a b q t : Nat) (rq : SquadRecord) (rt : TabRecord) : House :=
  let h := (h.setLane a { h.lane a with squad := none, tab := none }).setTab t (some (rebindSlot rt a b))
  let h := (h.setLane b { h.lane b with squad := some q, tab := some t }).setSquad q (some { rq with lane := b })
  let h := h.startWake b
  let h := if rq.state = .stopped then h.addCause b .allowance else h
  h.beginClosing a

/-- MOVE at the Lane Unit (R22). -/
def moveLanes (o : Origin) (a b : Nat) (h : House) : Reply :=
  if !isLane a || !isLane b then refuse h .noRecord
  else if !isDesk o then refuse h .notYours
  else if a = b then refuse h .outOfRange
  else if !(h.lane a).playing then refuse h .wrongState
  else
    match (h.lane a).squad, (h.lane a).tab with
    | some q, some t =>
      match h.squad q, h.tab t with
      | some rq, some rt =>
        if rq.mode = .pairPlay ∨ 2 ≤ rt.slots.length then refuse h .wrongState
        else if (h.lane a).delivery.isSome then refuse h .inFlight
        else if (h.lane b).mode ≠ .dark ∨ (h.lane b).tab.isSome = true then refuse h .wrongState
        else if !h.modulePresent b then refuse h .noMachine
        else done (h.moveSquad a b q t rq rt)
      | _, _ => refuse h .wrongState
    | _, _ => refuse h .wrongState

/-- MOVE (R22). -/
def execMove (header : Header) (source destination : Nat) (s : State) : Result :=
  request header (moveLanes header.origin source destination) s

/-! ### MANUAL ENTRY (R36) -/

/-- MANUAL ENTRY at the Lane Unit (R36). -/
def manualEntry (o : Origin) (n : Nat) (after : PinSet) (foul : Option Bool) (h : House) : Reply :=
  if !isLane n then refuse h .noRecord
  else if !deskOrOwnConsole n o then refuse h .notYours
  else
    match (h.lane n).delivery with
    | none => refuse h .wrongState
    | some d =>
      if d.manner = .read then refuse h .wrongState
      else if !pinsWithin after d.before then refuse h .outOfRange
      else
        let marked := { d with foul := d.foul || foul.getD false }
        done ((h.setLane n { h.lane n with delivery := some marked }).completeDelivery n after)

/-- MANUAL_ENTRY (R36). -/
def execManualEntry (header : Header) (lane : Nat) (standingAfter : PinSet) (foulMark : Option Bool) (s : State) : Result :=
  request header (manualEntry header.origin lane standingAfter foulMark) s

end Sys2Proof.Machine
end

