-- ==== Sys2Proof/Machine/DiscrepancyRequests.lean ====
section
/-! DEFINITION. The requests on deck discrepancies (chapter 6), codes 11 to 14. -/

namespace Sys2Proof.Machine

open Sys2Proof

/-! ### SET DISCREPANCY MASK (R120) -/

/-- The mask bits with those the request names written (R120). -/
def writeMask (mask : Vector Bool 6) (bits : Vector (Option Bool) 6) : Vector Bool 6 :=
  discrepancies.foldl (fun m k => m.set k.place ((bits[k.place]).getD m[k.place])) mask

/-- The end of a step that removed the fault context of lane `n` (R118): a frozen delivery is dropped as VOID drops it (R120,
R123), attention is recomputed, and an EMPTY deck at rest is recovered. -/
def House.contextRemoved (h : House) (n : Nat) : House :=
  let h := if (h.lane n).frozen then h.voidDelivery n else h
  (h.settleAttention n).recoverEmpty n

/-- SET DISCREPANCY MASK at the Lane Unit (R120). -/
def setDiscrepancyMask (o : Origin) (n : Nat) (bits : Vector (Option Bool) 6) (h : House) : Reply :=
  if !isLane n then refuse h .noRecord
  else if !isDesk o then refuse h .notYours
  else
    let was := (h.lane n).attention
    let h := h.setLane n { h.lane n with mask := writeMask (h.lane n).mask bits }
    done (if was && !(h.lane n).attention then h.contextRemoved n else h.settleAttention n)

/-- SET_DISCREPANCY_MASK (R120). -/
def execSetDiscrepancyMask (header : Header) (lane : Nat) (bits : Vector (Option Bool) 6) (s : State) : Result :=
  request header (setDiscrepancyMask header.origin lane bits) s

/-! ### RESOLVE (R121, R122) -/

/-- A context kind whose subject is the standing set while the deck is at rest (R122). -/
def standingKind (k : Discrepancy) : Bool := decide (k = .setMismatch) || decide (k = .phantomFall)

/-- The deck is at rest (R122): no delivery or cycle in flight, and neither LINK nor RESTART held. -/
def LaneRecord.atRest (l : LaneRecord) : Bool := !l.busy && !l.causes.link && !l.causes.restart

/-- The last six checks of RESOLVE (06 TABLE 3) on a lane with context `c`: the reason of the first that fails. -/
def resolveRefusal (l : LaneRecord) (c : RaiseRecord) (action : ResolveAction) : Option Reason :=
  match action, l.delivery.filter (·.frozen) with
  | .void, _ => none
  | .accept, some _ => if !c.holdsDelivery || c.reading.isNone then some .wrongState else none
  | .enter pins, some d => if !pinsWithin pins d.before then some .outOfRange else none
  | .accept, none =>
    if !standingKind c.kind then none
    else if l.busy then some .inFlight
    else if l.causes.link || l.causes.restart then some .wrongState
    else none
  | .enter _, none =>
    if !standingKind c.kind then some .wrongState
    else if l.busy then some .inFlight
    else if l.causes.link || l.causes.restart then some .wrongState
    else none

/-- The desk's pins put on the standing set: the deck is READY and no cycle is ordered (R122). -/
def House.acceptStanding (h : House) (n : Nat) (pins : PinSet) : House :=
  h.setLane n { h.lane n with standing := pins, deck := .ready }

/-- The action of a RESOLVE on its subject (R122, 06 TABLE 4). -/
def House.resolveAction (h : House) (n : Nat) (c : RaiseRecord) (action : ResolveAction) : House :=
  let l := h.lane n
  match l.delivery.filter (·.frozen), action with
  | some d, .accept => h.completeDelivery n (c.reading.getD noPins &&& d.before)
  | some _, .enter pins => h.completeDelivery n pins
  | some _, .void => h.voidDelivery n
  | none, .accept => if standingKind c.kind then h.acceptStanding n (c.reading.getD noPins) else h
  | none, .enter pins => h.acceptStanding n pins
  | none, .void =>
    match c.kind, l.atRest, c.cycleKind with
    | .setMismatch, true, some kind => h.orderCycle n kind (c.commanded.getD noPins)
    | _, _, _ => h.startRecovery n

/-- RESOLVE at the Lane Unit (R121): the action, then every flag with its raise record and the fault context cleared, then
attention, which is off, and the recovery of a deck left EMPTY (R118). -/
def resolveLane (o : Origin) (n : Nat) (action : Option ResolveAction) (h : House) : Reply :=
  if !isLane n then refuse h .noRecord
  else if !isDesk o then refuse h .notYours
  else
    match action, (h.lane n).context with
    | none, _ => refuse h .badRequest
    | some _, none => refuse h .wrongState
    | some a, some c =>
      match resolveRefusal (h.lane n) c a with
      | some reason => refuse h reason
      | none =>
        let h := h.resolveAction n c a
        let h := h.setLane n { (h.lane n).clearKinds discrepancies with context := none }
        done ((h.settleAttention n).recoverEmpty n)

/-- RESOLVE (R121, R122). -/
def execResolve (header : Header) (lane : Nat) (action : Option ResolveAction) (s : State) : Result :=
  request header (resolveLane header.origin lane action) s

/-! ### CLEAR FLAGS (R123) -/

/-- The context's kind is among those named, or attention is off once they are cleared: the context is removed (R123). -/
def contextGoes (l : LaneRecord) (kinds : List Discrepancy) : Bool :=
  match l.context with
  | some c => kinds.contains c.kind || !(l.clearKinds kinds).attention
  | none => false

/-- CLEAR FLAGS at the Lane Unit (R123). -/
def clearFlags (o : Origin) (n : Nat) (kinds : List (Option Discrepancy)) (h : House) : Reply :=
  if !isLane n then refuse h .noRecord
  else if kinds.contains none then refuse h .badRequest
  else if !isDesk o then refuse h .notYours
  else
    let named := kinds.filterMap id
    let goes := contextGoes (h.lane n) named
    let l := (h.lane n).clearKinds named
    if goes then done ((h.setLane n { l with context := none }).contextRemoved n)
    else done ((h.setLane n l).settleAttention n)

/-- CLEAR_FLAGS (R123). -/
def execClearFlags (header : Header) (lane : Nat) (kinds : List (Option Discrepancy)) (s : State) : Result :=
  request header (clearFlags header.origin lane kinds) s

/-! ### READ FAULT CONTEXT (R124) -/

/-- The raise records of the set flags, in order of precedence (R110, R124). -/
def setRaises (l : LaneRecord) : List RaiseRecord :=
  discrepancies.filterMap fun k => if l.flag k then l.raised k else none

/-- READ FAULT CONTEXT at the Lane Unit (R124). -/
def readFaultContext (o : Origin) (n : Nat) (h : House) : Reply :=
  if !isLane n then refuse h .noRecord
  else if !mayReadLane n o then refuse h .notYours
  else
    let l := h.lane n
    doneWith h (.faultContext l.flags l.mask l.context (setRaises l))

/-- READ_FAULT_CONTEXT (R124). -/
def execReadFaultContext (header : Header) (lane : Nat) (s : State) : Result :=
  request header (readFaultContext header.origin lane) s

end Sys2Proof.Machine
end

