-- ==== Sys2Proof/Machine/SquadRequests.lean ====
section
/-! DEFINITION. The requests on squads, bowlers and games (chapters 3 and 4), codes 15 to 28. -/

namespace Sys2Proof.Machine

open Sys2Proof

/-! ### Taking bowler records into use (R50) -/

/-- The free bowler record with the lowest number (R50). -/
def House.freeBowler (h : House) : Option Nat := (numbers Config.bowlers).find? fun k => (h.bowler k).isNone

/-- The count of free bowler records. -/
def House.freeBowlers (h : House) : Nat := ((numbers Config.bowlers).filter fun k => (h.bowler k).isNone).length

/-- The free squad record with the lowest number (R76). -/
def House.freeSquad (h : House) : Option Nat := (numbers Config.squads).find? fun q => (h.squad q).isNone

/-- A bowler record taken into use for squad `q` (R50). Its average is clamped to 0 to 300. -/
def newBowler (q : Nat) (e : BowlerEntry) (gameInProgress : Bool) : BowlerRecord :=
  { squad := q, nameTag := e.nameTag, state := if gameInProgress then .done else .waiting, inGame := .no,
    average := clamp 0 300 e.average, gameNumber := 0, sheet := .blank, totals := [] }

/-- Bowlers taken one after another into the lowest free records, and the numbers they take (R50, R77). -/
def House.takeBowlers (h : House) (q : Nat) (gameInProgress : Bool) : List BowlerEntry → House × List Nat
  | [] => (h, [])
  | e :: rest =>
    match h.freeBowler with
    | none => (h, [])
    | some k =>
      let r := House.takeBowlers (h.setBowler k (some (newBowler q e gameInProgress))) q gameInProgress rest
      (r.1, k :: r.2)

/-! ### FORM SQUAD (R77) -/

/-- The handicap rule of a squad formed without one (R77). -/
def unsetRule : HandicapRule := { basis := 0, percent := 0, cap := 300 }

/-- A handicap rule has a part outside its range. -/
def ruleClamped (r : HandicapRule) : Bool := decide (clampRule r ≠ r)

/-- The squad record of a squad formed (R77). -/
def newSquad (n : Nat) (order : List Nat) (auto : Option Bool) (rule : Option HandicapRule) : SquadRecord :=
  { lane := n, order := order, upPosition := none, frame := 1, mode := .openPlay, partner := none, side := none,
    pairGame := 0, autoNext := auto.getD false,
    rule := match rule with
      | some r => clampRule r
      | none => unsetRule,
    state := .forming, stopPoint := none }

/-- What an accepted FORM SQUAD does (R77): the squad is formed, STOPPED where the lane's tab carries the run-out mark. -/
def House.formSquad (h : House) (n q : Nat) (entries : List BowlerEntry) (auto : Option Bool)
    (rule : Option HandicapRule) : House × List Nat :=
  let taken := h.takeBowlers q false entries
  let h := taken.1.setSquad q (some (newSquad n taken.2 auto rule))
  let h := h.setLane n { h.lane n with squad := some q }
  (if h.runOutOn n then h.stopAtStart q else h, taken.2)

/-- FORM SQUAD at the Scoring Unit (R77, 04 TABLE 4). -/
def formSquadOn (o : Origin) (n : Nat) (entries : List BowlerEntry) (auto : Option Bool) (rule : Option HandicapRule)
    (h : House) : Reply :=
  if !isLane n then refuse h .noRecord
  else if !mayEditSquad h n o then refuse h .notYours
  else if !(h.lane n).keepsCauses then refuse h .wrongState
  else if (h.lane n).squad.isSome then refuse h .wrongState
  else if entries.isEmpty || decide (Config.squadSize < entries.length) then refuse h .outOfRange
  else if !(entries.all fun e => nameTagFits e.nameTag) then refuse h .outOfRange
  else if h.freeBowlers < entries.length then refuse h .full
  else
    match h.freeSquad with
    | none => refuse h .full
    | some q =>
      let formed := h.formSquad n q entries auto rule
      let clamped := (entries.any fun e => wasClamped 0 300 e.average) || (rule.map ruleClamped).getD false
      doneOrClamped clamped formed.1 (.squadFormed q formed.2)

/-- FORM_SQUAD (R77). -/
def execFormSquad (header : Header) (lane : Nat) (bowlers : List BowlerEntry) (autoNext : Option Bool)
    (rule : Option HandicapRule) (s : State) : Result :=
  request header (formSquadOn header.origin lane bowlers autoNext rule) s

/-! ### ADD BOWLER and SET ORDER (R78) -/

/-- ADD BOWLER at the Scoring Unit (R78). -/
def addBowlerTo (o : Origin) (q : Nat) (e : BowlerEntry) (h : House) : Reply :=
  match h.squad q with
  | none => refuse h .noRecord
  | some r =>
    if !mayEditSquad h r.lane o then refuse h .notYours
    else if Config.squadSize ≤ r.order.length then refuse h .full
    else if !nameTagFits e.nameTag then refuse h .outOfRange
    else
      match h.freeBowler with
      | none => refuse h .full
      | some k =>
        let h := h.setBowler k (some (newBowler q e r.inProgress))
        doneOrClamped (wasClamped 0 300 e.average)
          (h.setSquad q (some { r with order := r.order ++ [k] })) (.bowlerAdded k)

/-- ADD_BOWLER (R78). -/
def execAddBowler (header : Header) (squad : Nat) (entry : BowlerEntry) (s : State) : Result :=
  request header (addBowlerTo header.origin squad entry) s

/-- A list holds every bowler of an order exactly once (R78). -/
def sameBowlers (order given : List Nat) : Bool :=
  decide (given.length = order.length) && order.all fun k => given.contains k

/-- The place in a new order of the bowler at a place of the old one (R78). -/
def movedPlace (order given : List Nat) (place : Option Nat) : Option Nat :=
  place.bind fun p => given.findIdx? fun k => decide (some k = order[p]?)

/-- SET ORDER at the Scoring Unit (R72, R78). -/
def setOrderOf (o : Origin) (q : Nat) (given : List Nat) (h : House) : Reply :=
  match h.squad q with
  | none => refuse h .noRecord
  | some r =>
    if !mayEditSquad h r.lane o then refuse h .notYours
    else if !sameBowlers r.order given then refuse h .outOfRange
    else if (h.lane r.lane).delivery.isSome then refuse h .inFlight
    else done (h.setSquad q (some { r with order := given, upPosition := movedPlace r.order given r.upPosition }))

/-- SET_ORDER (R78). -/
def execSetOrder (header : Header) (squad : Nat) (order : List Nat) (s : State) : Result :=
  request header (setOrderOf header.origin squad order) s

/-! ### MARK AWAY and MARK BACK (R65, R79), REMOVE BOWLER (R71) -/

/-- The bowler record marked away (03 TABLE 8). DESIGN CHOICE (log entry 32): TABLE 8 has no row for a WAITING bowler whose in
game is LEFT, one marked back after the game it left had ended; it becomes ABSENT and its in game stays LEFT. -/
def BowlerRecord.away (b : BowlerRecord) : BowlerRecord :=
  { b with state := .absent,
           inGame := if (b.state = .waiting ∨ b.state = .up) ∧ b.inGame = .yes then .left else b.inGame }

/-- The bowler record marked back (03 TABLE 8). -/
def BowlerRecord.back (b : BowlerRecord) (gameInProgress : Bool) : BowlerRecord :=
  if b.state = .absent then { b with state := if gameInProgress then .done else .waiting } else b

/-- The rotation passes on after an edit of squad `q` on lane `n` (R79). Where the edit ends the squad frame the need is handed
by R43. Absent where the lane would decline that need. `before` is the house before the edit. DESIGN CHOICE (log entry 37):
the other lane's order stands first. -/
def House.editRotation (h : House) (before : House) (n q : Nat) : Option House :=
  match h.squad q with
  | none => some h
  | some r =>
    if (h.nextUp r).isSome then some (h.passOn n q false)
    else if before.declinesNeed n then none
    else
      let h := (h.passOn n q false).handSweeps before [otherLane n]
      some (if h.gameInProgress q then h.handNeed n .newRack fullRack else h.handNeed n .sweep noPins)

/-- The reason an edit may not take bowler `b` from play (03 TABLES 8 and 10, R72). -/
def takeAwayRefusal (h : House) (n : Nat) (b : BowlerRecord) : Option Reason :=
  if b.state = .up ∧ (h.lane n).delivery.isSome = true then some .inFlight
  else if b.state = .up ∧ b.sheet.midFrame = true then some .wrongState
  else none

/-- An edit has left every present bowler of an OPEN_PLAY squad DONE with its game in progress, so that its game ends (R65,
R71). With nobody UP before the edit such a squad is STOPPED at AT_FRAME. -/
def House.editEndsGame (h : House) (q : Nat) : Bool :=
  match h.squad q with
  | some r => decide (r.mode = .openPlay) && r.inProgress && h.allDone r
  | none => false

/-- An edit answered by the rotation it brings (R79). -/
def answerRotation (before : House) (after : House) (n q : Nat) : Reply :=
  match after.editRotation before n q with
  | some h => done h
  | none => refuse before .inFlight

/-- The answer to an edit of squad `q` on lane `n`: of the UP bowler, the rotation passes on (R79); of another, the game of a
stopped squad left with nobody to bowl ends (R65, R71), the squad leaving its stop first (log entry 33). -/
def answerEdit (before : House) (after : House) (n q : Nat) (wasUp : Bool) : Reply :=
  if wasUp then answerRotation before after n q
  else if after.editEndsGame q then answerRotation before (after.unstop q .playing) n q
  else done after

/-- MARK AWAY at the Scoring Unit (R65, R79). -/
def markAwayBowler (o : Origin) (k : Nat) (h : House) : Reply :=
  match h.bowler k with
  | none => refuse h .noRecord
  | some b =>
    match h.squad b.squad with
    | none => refuse h .noRecord
    | some r =>
      if !mayEditSquad h r.lane o then refuse h .notYours
      else
        match takeAwayRefusal h r.lane b with
        | some reason => refuse h reason
        | none =>
          if b.state = .absent then done h
          else
            let wasUp := decide (b.state = .up)
            let away := h.setBowler k (some b.away)
            let away := if wasUp then away.setSquad b.squad (some { r with upPosition := none }) else away
            answerEdit h away r.lane b.squad wasUp

/-- MARK_AWAY (R79). -/
def execMarkAway (header : Header) (bowler : Nat) (s : State) : Result :=
  request header (markAwayBowler header.origin bowler) s

/-- MARK BACK at the Scoring Unit (R65, R79). -/
def markBackBowler (o : Origin) (k : Nat) (h : House) : Reply :=
  match h.bowler k with
  | none => refuse h .noRecord
  | some b =>
    match h.squad b.squad with
    | none => refuse h .noRecord
    | some r =>
      if !mayEditSquad h r.lane o then refuse h .notYours
      else if b.state ≠ .absent then done h
      else answerEdit h (h.setBowler k (some (b.back r.inProgress))) r.lane b.squad false

/-- MARK_BACK (R79). -/
def execMarkBack (header : Header) (bowler : Nat) (s : State) : Result :=
  request header (markBackBowler header.origin bowler) s

/-- A squad record that loses bowler `k` from its order, the remaining bowlers keeping theirs (R71). -/
def SquadRecord.without (r : SquadRecord) (k : Nat) : SquadRecord :=
  let order := r.order.filter fun j => decide (j ≠ k)
  { r with order := order, upPosition := movedPlace r.order order r.upPosition }

/-- REMOVE BOWLER at the Scoring Unit (R71). -/
def removeBowlerFrom (o : Origin) (k : Nat) (h : House) : Reply :=
  match h.bowler k with
  | none => refuse h .noRecord
  | some b =>
    match h.squad b.squad with
    | none => refuse h .noRecord
    | some r =>
      if !mayEditSquad h r.lane o then refuse h .notYours
      else if r.order.length ≤ 1 then refuse h .wrongState
      else
        match takeAwayRefusal h r.lane b with
        | some reason => refuse h reason
        | none =>
          let gone := (h.setBowler k none).setSquad b.squad (some (r.without k))
          answerEdit h gone r.lane b.squad (decide (b.state = .up))

/-- REMOVE_BOWLER (R71). -/
def execRemoveBowler (header : Header) (bowler : Nat) (s : State) : Result :=
  request header (removeBowlerFrom header.origin bowler) s

/-! ### SET BOWLER (R70) and SET SQUAD (R80) -/

/-- SET BOWLER at the Scoring Unit (R70). -/
def setBowlerRecord (o : Origin) (k : Nat) (tag : Option (List Byte)) (average : Option Nat) (h : House) : Reply :=
  match h.bowler k with
  | none => refuse h .noRecord
  | some b =>
    match h.squad b.squad with
    | none => refuse h .noRecord
    | some r =>
      if !mayEditSquad h r.lane o then refuse h .notYours
      else if !((tag.map nameTagFits).getD true) then refuse h .outOfRange
      else
        doneOrClamped (optionClamped 0 300 average)
          (h.setBowler k (some { b with nameTag := tag.getD b.nameTag, average := clampOr 0 300 b.average average }))

/-- SET_BOWLER (R70). -/
def execSetBowler (header : Header) (bowler : Nat) (nameTag : Option (List Byte)) (average : Option Nat) (s : State) :
    Result :=
  request header (setBowlerRecord header.origin bowler nameTag average) s

/-- The handicap rule with the parts a request names written, each clamped to its range (R80). -/
def writeRule (r : HandicapRule) (e : HandicapEdit) : HandicapRule :=
  { basis := clampOr 0 300 r.basis e.basis, percent := clampOr 0 100 r.percent e.percent,
    cap := clampOr 0 300 r.cap e.cap }

/-- Some part of the edit lies outside its range (R80). -/
def editClamped (e : HandicapEdit) : Bool :=
  optionClamped 0 300 e.basis || optionClamped 0 100 e.percent || optionClamped 0 300 e.cap

/-- SET SQUAD at the Scoring Unit (R80). In PAIR_PLAY a new auto next game value is written to both squads. -/
def setSquadRecord (o : Origin) (q : Nat) (auto : Option Bool) (e : HandicapEdit) (h : House) : Reply :=
  match h.squad q with
  | none => refuse h .noRecord
  | some r =>
    if !mayEditSquad h r.lane o then refuse h .notYours
    else
      let h' := h.setSquad q (some { r with autoNext := auto.getD r.autoNext, rule := writeRule r.rule e })
      let h' := match h.partnerOf r with
        | some (p, rp) => h'.setSquad p (some { rp with autoNext := auto.getD rp.autoNext })
        | none => h'
      doneOrClamped (editClamped e) h'

/-- SET_SQUAD (R80). -/
def execSetSquad (header : Header) (squad : Nat) (autoNext : Option Bool) (rule : HandicapEdit) (s : State) : Result :=
  request header (setSquadRecord header.origin squad autoNext rule) s

/-! ### END SQUAD (R82) -/

/-- END SQUAD at the Scoring Unit (R82). -/
def endSquadOf (o : Origin) (q : Nat) (h : House) : Reply :=
  match h.squad q with
  | none => refuse h .noRecord
  | some r =>
    if !mayEditSquad h r.lane o then refuse h .notYours
    else if (h.lane r.lane).delivery.isSome then refuse h .inFlight
    else done (h.retireSquad q)

/-- END_SQUAD (R82). -/
def execEndSquad (header : Header) (squad : Nat) (s : State) : Result := request header (endSquadOf header.origin squad) s

/-! ### READ SQUAD (R81) and READ BOWLER (R69) -/

/-- The desk, or the console of lane `n`'s pair: the reads of squads and bowlers (R69, R81). -/
def mayReadSquad (n : Nat) (o : Origin) : Bool := deskOrOwnConsole n o

/-- A bowler of the order as READ SQUAD answers it (R81). -/
def House.summaryOf (h : House) (k : Nat) : Option BowlerSummary :=
  (h.bowler k).map fun b =>
    { number := k, nameTag := b.nameTag, state := b.state, inGame := b.inGame, current := b.sheet.current,
      running := b.sheet.highestRunning }

/-- READ SQUAD at the Scoring Unit (R81). -/
def readSquadRecord (o : Origin) (q : Nat) (h : House) : Reply :=
  match h.squad q with
  | none => refuse h .noRecord
  | some r =>
    if !mayReadSquad r.lane o then refuse h .notYours
    else doneWith h (.squad q r (r.order.filterMap h.summaryOf))

/-- READ_SQUAD (R81). -/
def execReadSquad (header : Header) (squad : Nat) (s : State) : Result :=
  request header (readSquadRecord header.origin squad) s

/-- The answer body of READ BOWLER (R68, R69). -/
def bowlerBody (b : BowlerRecord) (rule : HandicapRule) : BowlerBody :=
  let hc := handicap rule b.average
  { record := b, handicap := hc,
    runningWithHandicap := (numbers 10).map fun f => ((b.sheet.frame f).running).map (· + hc),
    totalsWithHandicap := b.totals.map fun e => e.total + hc }

/-- READ BOWLER at the Scoring Unit (R69). -/
def readBowlerRecord (o : Origin) (k : Nat) (h : House) : Reply :=
  match h.bowler k with
  | none => refuse h .noRecord
  | some b =>
    match h.squad b.squad with
    | none => refuse h .noRecord
    | some r =>
      if !mayReadSquad r.lane o then refuse h .notYours
      else doneWith h (.bowler (bowlerBody b r.rule))

/-- READ_BOWLER (R69). -/
def execReadBowler (header : Header) (bowler : Nat) (s : State) : Result :=
  request header (readBowlerRecord header.origin bowler) s

/-! ### START GAME (R86, R87) -/

/-- The squads of a START GAME on the lane of squad `q`: the squad, and in PAIR_PLAY its partner. -/
def House.startSet (h : House) (q : Nat) (r : SquadRecord) : List Nat :=
  match h.partnerOf r with
  | some (p, _) => [q, p]
  | none => [q]

/-- The present bowlers of a START GAME (R86). -/
def House.startCount (h : House) (r : SquadRecord) : Nat :=
  h.presentCount r + (match h.partnerOf r with
    | some (_, rp) => h.presentCount rp
    | none => 0)

/-- The checks of START GAME from the third on (04 TABLE 6): the reason of the first that fails. -/
def House.startRefusal (h : House) (n : Nat) (r : SquadRecord) : Option Reason :=
  if r.inProgress then some .wrongState
  else if h.presentCount r = 0 then some .wrongState
  else
    match h.partnerOf r with
    | some (_, rp) =>
      if rp.inProgress then some .wrongState
      else if h.declinesNeed n || h.declinesNeed rp.lane then some .inFlight
      else none
    | none => if h.declinesNeed n then some .inFlight else none

/-- START GAME on a playing lane at the Scoring Unit (R86, R87). -/
def startGameOn (n : Nat) (h : House) : Reply :=
  match (h.lane n).squad with
  | none => refuse h .wrongState
  | some q =>
    match h.squad q with
    | none => refuse h .wrongState
    | some r =>
      match h.startRefusal n r with
      | some reason => refuse h reason
      | none =>
        let c := h.charge n (h.startCount r)
        let started := House.applyCharge (fun h q => h.passOn 0 q false) c.1 0 (h.startSet q r) c.2
        ⟨started, if c.2 then .done else .refused .allowance, .empty⟩

/-- START GAME (R13, R86). On a lane that is not playing it is a wake that is never answered DONE. -/
def startGame (o : Origin) (n : Nat) (h : House) : Reply :=
  if !isLane n then refuse h .noRecord
  else if !deskOrOwnConsole n o then refuse h .notYours
  else if (h.lane n).playing then startGameOn n h
  else wakeAsleep n (isDesk o || (h.lane n).options.consoleWake) .waking h

/-- START_GAME (R13, R86). -/
def execStartGame (header : Header) (lane : Nat) (s : State) : Result := request header (startGame header.origin lane) s

/-! ### PAIR PLAY (R89) and END PAIR PLAY (R93) -/

/-- A squad as the binding of R89 sets it. -/
def SquadRecord.bind (r : SquadRecord) (partner : Nat) (side : Side) (auto : Bool) : SquadRecord :=
  { r with mode := .pairPlay, partner := some partner, side := some side, pairGame := 0, autoNext := auto }

/-- A squad that has left pair play (R93). -/
def SquadRecord.unbind (r : SquadRecord) : SquadRecord :=
  { r with mode := .openPlay, partner := none, side := none, pairGame := 0 }

/-- PAIR PLAY at the Scoring Unit (R89, 04 TABLE 7). -/
def pairPlayOn (o : Origin) (p : Nat) (auto : Option Bool) (h : House) : Reply :=
  if !isPair p then refuse h .noRecord
  else if !isDesk o then refuse h .notYours
  else
    let a := h.lane (oddLane p)
    let b := h.lane (evenLane p)
    if a.mode = .out ∨ b.mode = .out then refuse h .wrongState
    else if a.tab.isNone ∨ b.tab.isNone ∨ a.tab ≠ b.tab then refuse h .wrongState
    else
      match a.squad, b.squad with
      | some qa, some qb =>
        match h.squad qa, h.squad qb with
        | some ra, some rb =>
          if ra.mode = .pairPlay ∨ rb.mode = .pairPlay then refuse h .wrongState
          else if ra.inProgress || rb.inProgress then refuse h .wrongState
          else
            let next := auto.getD ra.autoNext
            done ((h.setSquad qa (some (ra.bind qb .a next))).setSquad qb (some (rb.bind qa .b next)))
        | _, _ => refuse h .wrongState
      | _, _ => refuse h .wrongState

/-- PAIR_PLAY (R89). -/
def execPairPlay (header : Header) (pair : Nat) (autoNext : Option Bool) (s : State) : Result :=
  request header (pairPlayOn header.origin pair autoNext) s

/-- The squads of a bound pair, with their records (R93). -/
def House.boundPair (h : House) (p : Nat) : Option (Nat × SquadRecord × Nat × SquadRecord) :=
  match (h.lane (oddLane p)).squad, (h.lane (evenLane p)).squad with
  | some qa, some qb =>
    match h.squad qa, h.squad qb with
    | some ra, some rb =>
      if ra.mode = .pairPlay ∧ ra.partner = some qb ∧ rb.mode = .pairPlay ∧ rb.partner = some qa then
        some (qa, ra, qb, rb)
      else none
    | _, _ => none
  | _, _ => none

/-- END PAIR PLAY at the Scoring Unit (R93). -/
def endPairPlayOn (o : Origin) (p : Nat) (h : House) : Reply :=
  if !isPair p then refuse h .noRecord
  else
    match h.boundPair p with
    | none => refuse h .noRecord
    | some (qa, ra, qb, rb) =>
      if !isDesk o then refuse h .notYours
      else if ra.inProgress || rb.inProgress then refuse h .wrongState
      else done ((h.setSquad qa (some ra.unbind)).setSquad qb (some rb.unbind))

/-- END_PAIR_PLAY (R93). -/
def execEndPairPlay (header : Header) (pair : Nat) (s : State) : Result :=
  request header (endPairPlayOn header.origin pair) s

end Sys2Proof.Machine
end

