-- ==== Sys2Proof/Machine/Corrections.lean ====
section
/-! DEFINITION. CORRECT BALL (chapter 5), code 29: the class of a correction, its checks, the trial rescore, and what an
accepted correction does to the bowler, the rotation, the deck and the game totals. -/

namespace Sys2Proof.Machine

open Sys2Proof

/-- A current-frame correction (R99): the bowler is UP, the frame named is its current frame, and it has not ended. -/
def isCurrentFrame (b : BowlerRecord) (f : Nat) : Bool :=
  decide (b.state = .up) && decide (b.sheet.current = f) && (b.sheet.frame f).kind.isNone

/-- The origins permitted (R100): the desk any ball, a console a current-frame correction on its own pair where that lane's
console corrections option is on. -/
def mayCorrect (h : House) (n : Nat) (current : Bool) (o : Origin) : Bool :=
  isDesk o || (current && isConsoleOf (pairOf n) o && (h.lane n).options.consoleCorrections)

/-- The frames of a bowler record hold a finished game (R107). -/
def holdsFinishedGame (b : BowlerRecord) (squadInProgress : Bool) : Bool :=
  decide (1 ≤ b.gameNumber) && (!squadInProgress || decide (b.inGame = .no))

/-- The newest game totals entry worked out afresh from the rescored frames; its incomplete mark is kept (R107). -/
def freshEntry (sh : Sheet) (e : GameTotal) : GameTotal :=
  { e with total := if e.incomplete then sh.highestRunning.getD 0 else sh.gameTotal }

/-- The game totals list with its newest entry replaced (R107). -/
def replaceNewest (sh : Sheet) (totals : List GameTotal) : List GameTotal :=
  match totals.getLast? with
  | some e => totals.dropLast ++ [freshEntry sh e]
  | none => totals

/-- The record after a past-frame correction (R103, R107): the trial's frames and bonuses, the current frame as it was. -/
def BowlerRecord.correctPast (b : BowlerRecord) (trial : Sheet) (squadInProgress : Bool) : BowlerRecord :=
  { b with sheet := { trial with current := b.sheet.current },
           totals := if holdsFinishedGame b squadInProgress then replaceNewest trial b.totals else b.totals }

/-- The answer body of an accepted correction of bowler `k` (R108). `replaced` says that R107 replaced an entry. DESIGN CHOICE
(log entry 35): the records are shown as they stand at the end of the step, an automatic next game included. -/
def correctedBody (h : House) (k : Nat) (replaced : Bool) : Body :=
  match h.bowler k with
  | none => .empty
  | some b =>
    .corrected ((numbers 10).map fun f =>
        { kind := (b.sheet.frame f).kind, score := (b.sheet.frame f).score, running := (b.sheet.frame f).running })
      b.sheet.current b.state (if replaced then b.totals.getLast? else none)

/-- The deck, rotation and game consequences of an accepted current-frame correction of bowler `k` of squad `q` on lane `n`
(R105, R106). DESIGN CHOICE (log entry 37): the other lane's order stands first. -/
def House.correctCurrent (h : House) (n k q f : Nat) (b : BowlerRecord) (trial : Sheet) : House :=
  let h1 := h.setBowler k (some { b with sheet := trial })
  if (trial.frame f).kind.isNone then h1.handNeed n .respot trial.owed
  else
    let h2 := (h1.bowlerFrameEnded n k q (decide (f = 10))).handSweeps h [otherLane n]
    if h2.gameInProgress q then h2.handNeed n .newRack fullRack else h2.handNeed n .sweep noPins

/-- CORRECT BALL from its second check on (R101), for a record in use with its squad. -/
def correctFor (o : Origin) (k f index : Nat) (after : PinSet) (foul : Bool) (b : BowlerRecord) (r : SquadRecord)
    (h : House) : Reply :=
  let current := isCurrentFrame b f
  if !mayCorrect h r.lane current o then refuse h .notYours
  else if f < 1 ∨ 10 < f ∨ index < 1 ∨ 3 < index then refuse h .outOfRange
  else
    match b.sheet.ball f index with
    | none => refuse h .outOfRange
    | some old =>
      if !pinsWithin after old.before then refuse h .outOfRange
      else if current && ((h.lane r.lane).busy || h.declinesNeed r.lane) then refuse h .inFlight
      else
        match (b.sheet.correct f index after foul).rescore (if current then some f else none) with
        | none => refuse h .outOfRange
        | some trial =>
          if current then
            let h' := h.correctCurrent r.lane k b.squad f b trial
            doneWith h' (correctedBody h' k false)
          else
            let h' := h.setBowler k (some (b.correctPast trial r.inProgress))
            doneWith h' (correctedBody h' k (holdsFinishedGame b r.inProgress && !b.totals.isEmpty))

/-- CORRECT BALL at the Scoring Unit (R98 to R108). -/
def correctBallOf (o : Origin) (k f index : Nat) (after : PinSet) (foul : Bool) (h : House) : Reply :=
  match h.bowler k with
  | none => refuse h .noRecord
  | some b =>
    match h.squad b.squad with
    | none => refuse h .noRecord
    | some r => correctFor o k f index after foul b r h

/-- CORRECT_BALL (R98). -/
def execCorrectBall (header : Header) (bowler frame ball : Nat) (standingAfter : PinSet) (foulMark : Bool) (s : State) :
    Result :=
  request header (correctBallOf header.origin bowler frame ball standingAfter foulMark) s

end Sys2Proof.Machine
end

