-- ==== Sys2Proof/Machine/ReturnRequests.lean ====
section
/-! DEFINITION. The requests on ball returns (chapter 7), codes 30 to 32. -/

namespace Sys2Proof.Machine

open Sys2Proof

/-- RETURN CLEAR at the Return Monitor (R132). -/
def returnClear (o : Origin) (p : Nat) (h : House) : Reply :=
  if !isPair p then refuse h .noRecord
  else if isConsole o then refuse h .notYours
  else done (h.emptyReturn p)

/-- RETURN_CLEAR (R132). -/
def execReturnClear (header : Header) (pair : Nat) (s : State) : Result :=
  request header (returnClear header.origin pair) s

/-- SET RETURN TIMEOUT at the Return Monitor (R133). A deadline that runs keeps its value. -/
def setReturnTimeout (o : Origin) (p seconds : Nat) (h : House) : Reply :=
  if !isPair p then refuse h .noRecord
  else if !isDesk o then refuse h .notYours
  else doneOrClamped (wasClamped 10 120 seconds) (h.setRet p { h.ret p with timeout := clamp 10 120 seconds })

/-- SET_RETURN_TIMEOUT (R133). -/
def execSetReturnTimeout (header : Header) (pair seconds : Nat) (s : State) : Result :=
  request header (setReturnTimeout header.origin pair seconds) s

/-- The desk, the console of pair `p`, and any station (R135). -/
def mayReadReturn (p : Nat) (o : Origin) : Bool := !isConsole o || isConsoleOf p o

/-- The answer body of RETURN STATUS at a timebase value (R135). -/
def returnBody (r : ReturnRecord) (now : Nat) : ReturnBody :=
  { jam := r.jam, timeout := r.timeout, count := r.outstanding.length,
    entries := r.outstanding.map fun e => (e.lane, now - e.seen), remaining := r.deadline.map fun d => d - now }

/-- RETURN STATUS at the Return Monitor (R135). -/
def returnStatus (o : Origin) (p : Nat) (h : House) : Reply :=
  if !isPair p then refuse h .noRecord
  else if !mayReadReturn p o then refuse h .notYours
  else doneWith h (.returns (returnBody (h.ret p) h.now))

/-- RETURN_STATUS (R135). -/
def execReturnStatus (header : Header) (pair : Nat) (s : State) : Result :=
  request header (returnStatus header.origin pair) s

end Sys2Proof.Machine
end

