-- ==== Sys2Proof/Machine/CallRequests.lean ====
section
/-! DEFINITION. The requests on mechanic calls (chapter 8), codes 33 to 40. -/

namespace Sys2Proof.Machine

open Sys2Proof

/-! ### ASSIST and DESK CALL (R142) -/

/-- A call raised for a lane by a request, and the answer body that names what became of the raise (R142). -/
def raiseByRequest (n : Nat) (k : CallKind) (h : House) : Reply :=
  let h' := h.raiseCall n k
  match h.calls.find n k, h'.calls.find n k with
  | some c, _ => doneWith h' (.callRepeated c.number)
  | none, some c => doneWith h' (.callOpened c.number)
  | none, none => doneWith h' .callUnqueued

/-- ASSIST at the Call Queue (R142). -/
def assistCall (o : Origin) (n : Nat) (h : House) : Reply :=
  if !isLane n then refuse h .noRecord
  else if !deskOrOwnConsole n o then refuse h .notYours
  else raiseByRequest n .assist h

/-- ASSIST (R142). -/
def execAssist (header : Header) (lane : Nat) (s : State) : Result := request header (assistCall header.origin lane) s

/-- DESK CALL at the Call Queue (R142). -/
def deskCallFor (o : Origin) (n : Nat) (h : House) : Reply :=
  if !isLane n then refuse h .noRecord
  else if !isDesk o then refuse h .notYours
  else raiseByRequest n .desk h

/-- DESK_CALL (R142). -/
def execDeskCall (header : Header) (lane : Nat) (s : State) : Result := request header (deskCallFor header.origin lane) s

/-! ### SET CLASS MAP (R143) and SET DISPATCH (R144) -/

/-- The class map with the named kinds written, a class above 3 as 3 (R143). -/
def writeClasses (map : Vector Nat 9) (classes : List (Option CallKind × Nat)) : Vector Nat 9 :=
  classes.foldl (fun m e => match e.1 with
    | some k => m.set k.place (clamp 0 3 e.2)
    | none => m) map

/-- SET CLASS MAP at the Call Queue (R143). -/
def setClassMap (o : Origin) (classes : List (Option CallKind × Nat)) (h : House) : Reply :=
  if classes.any fun e => e.1.isNone then refuse h .badRequest
  else if !isDesk o then refuse h .notYours
  else
    doneOrClamped (classes.any fun e => wasClamped 0 3 e.2)
      { h with calls := { h.calls with classMap := writeClasses h.calls.classMap classes } }

/-- SET_CLASS_MAP (R143). -/
def execSetClassMap (header : Header) (classes : List (Option CallKind × Nat)) (s : State) : Result :=
  request header (setClassMap header.origin classes) s

/-- The classes, the highest first. -/
def classesDown : List (Fin 4) := [3, 2, 1, 0]

/-- A dispatch setting with its ratio clamped to 1 to 15 (R144). -/
def clampSetting (d : DispatchSetting) : DispatchSetting :=
  match d with
  | .strict => .strict
  | .ratio n => .ratio (clamp 1 15 n)

/-- The dispatch settings with those of the named classes written (R144). -/
def writeDispatch (held : Vector DispatchSetting 4) (settings : Vector (Option DispatchSetting) 4) :
    Vector DispatchSetting 4 :=
  classesDown.foldl (fun v c => match settings[c] with
    | some d => v.set c (clampSetting d)
    | none => v) held

/-- Some ratio of the request lies outside 1 to 15 (R144). -/
def dispatchClamped (settings : Vector (Option DispatchSetting) 4) : Bool :=
  classesDown.any fun c => match settings[c] with
    | some d => decide (clampSetting d ≠ d)
    | none => false

/-- Every credit at 0 (R144). -/
def noCredits : Vector Nat 4 := #v[0, 0, 0, 0]

/-- SET DISPATCH at the Call Queue (R144). -/
def setDispatch (o : Origin) (settings : Vector (Option DispatchSetting) 4) (h : House) : Reply :=
  if !isDesk o then refuse h .notYours
  else
    doneOrClamped (dispatchClamped settings)
      { h with calls := { h.calls with dispatch := writeDispatch h.calls.dispatch settings, credits := noCredits } }

/-- SET_DISPATCH (R144). -/
def execSetDispatch (header : Header) (settings : Vector (Option DispatchSetting) 4) (s : State) : Result :=
  request header (setDispatch header.origin settings) s

/-! ### NEXT CALL (R145) -/

/-- The oldest WAITING call of a class (R138). -/
def CallQueue.oldestWaiting (q : CallQueue) (c : Fin 4) : Option CallRecord :=
  q.queue.find? fun r => r.waiting && decide (r.callClass = c.val)

/-- The strict step: the oldest WAITING call of the highest STRICT class that has one (R145). -/
def CallQueue.strictChoice (q : CallQueue) : Option CallRecord :=
  classesDown.findSome? fun c => if q.dispatch[c] = .strict then q.oldestWaiting c else none

/-- The ratio of a class, absent for a STRICT one. -/
def CallQueue.ratioOf (q : CallQueue) (c : Fin 4) : Option Nat :=
  match q.dispatch[c] with
  | .ratio n => some n
  | .strict => none

/-- The ratio step: the highest RATIO class with a WAITING call and a credit above 0, and its oldest WAITING call (R145). -/
def CallQueue.ratioChoice (q : CallQueue) : Option (Fin 4 × CallRecord) :=
  classesDown.findSome? fun c =>
    if (q.ratioOf c).isSome ∧ 0 < q.credits[c] then (q.oldestWaiting c).map fun r => (c, r) else none

/-- A new round: every RATIO class's credit is set to its ratio (R145). -/
def CallQueue.newRound (q : CallQueue) : CallQueue :=
  { q with credits := classesDown.foldl (fun (v : Vector Nat 4) (c : Fin 4) => v.set c ((q.ratioOf c).getD v[c])) q.credits }

/-- The ratio step taken: the queue with the class's credit lowered by 1, and the call chosen (R145). -/
def CallQueue.takeRatio (q : CallQueue) : Option (CallQueue × CallRecord) :=
  q.ratioChoice.map fun cr => ({ q with credits := q.credits.set cr.1 (q.credits[cr.1] - 1) }, cr.2)

/-- The three steps of the choice (R145). A new round is started only where some RATIO class has a WAITING call. -/
def CallQueue.choose (q : CallQueue) : Option (CallQueue × CallRecord) :=
  match q.strictChoice with
  | some r => some (q, r)
  | none =>
    match q.takeRatio with
    | some taken => some taken
    | none => q.newRound.takeRatio

/-- A call with its station written, or taken out (R138). -/
def CallQueue.hold (q : CallQueue) (number : Nat) (station : Option Nat) : CallQueue :=
  { q with queue := q.queue.map fun r => if r.number = number then { r with station := station } else r }

/-- A chosen call is taken by station `k` (R145). -/
def CallQueue.take (q : CallQueue) (number k : Nat) : CallQueue :=
  let q := q.hold number (some k)
  { q with stations := numSet q.stations k (numGet q.stations [] k ++ [number]) }

/-- NEXT CALL for station `k` at the Call Queue (R145). -/
def nextCallFor (k : Nat) (h : House) : Reply :=
  if Config.stationRoom ≤ (numGet h.calls.stations [] k).length then refuse h .limit
  else
    match h.calls.choose with
    | none => doneWith h (.nextCall none)
    | some (q, r) => doneWith { h with calls := q.take r.number k } (.nextCall (some { r with station := some k }))

/-- NEXT CALL at the Call Queue (R145): a station asks for itself, the desk for the station it names. -/
def nextCallAt (o : Origin) (named : Nat) (h : House) : Reply :=
  match o with
  | .console _ => refuse h .notYours
  | .station k => nextCallFor k h
  | .desk => if named < 1 ∨ Config.stations < named then refuse h .noRecord else nextCallFor named h

/-- NEXT_CALL (R145). -/
def execNextCall (header : Header) (station : Nat) (s : State) : Result :=
  request header (nextCallAt header.origin station) s

/-! ### RETURN CALL (R146) -/

/-- The desk, or the station that holds the call (R146). -/
def mayReturn (c : CallRecord) (o : Origin) : Bool :=
  match o with
  | .desk => true
  | .console _ => false
  | .station k => decide (c.station = some k)

/-- RETURN CALL at the Call Queue (R146). -/
def returnCallOf (o : Origin) (number : Nat) (h : House) : Reply :=
  match h.calls.numbered number with
  | none => refuse h .noRecord
  | some c =>
    if !mayReturn c o then refuse h .notYours
    else if c.waiting then refuse h .wrongState
    else
      let q := h.calls.hold number none
      done { h with calls := { q with stations := withoutNumber q.stations number } }

/-- RETURN_CALL (R146). -/
def execReturnCall (header : Header) (number : Nat) (s : State) : Result :=
  request header (returnCallOf header.origin number) s

/-! ### CLEAR CALL (R147) -/

/-- A station may clear a WAITING call and one it holds itself; the desk any (R147). -/
def mayClear (c : CallRecord) (o : Origin) : Bool := c.waiting || mayReturn c o

/-- CLEAR CALL of a call in the queue (R147). -/
def clearFound (o : Origin) (c : CallRecord) (h : House) : Reply :=
  if !mayClear c o then refuse h .notYours else done (h.clearQueued c)

/-- CLEAR CALL naming a lane and a kind (R147). -/
def clearNamed (o : Origin) (n : Nat) (k : CallKind) (h : House) : Reply :=
  match h.calls.find (callLane n k) k with
  | some c => clearFound o c h
  | none =>
    if (h.unqueued (callLane n k)).has k then done (h.clearUnqueued (callLane n k) k) else refuse h .noRecord

/-- CLEAR CALL at the Call Queue (R147). DEDUCED (log entry 5): a console is refused NOT_YOURS before any number is looked at. -/
def clearCallAt (o : Origin) (target : CallTarget) (h : House) : Reply :=
  if isConsole o then refuse h .notYours
  else
    match target with
    | .byNumber number =>
      match h.calls.numbered number with
      | none => refuse h .noRecord
      | some c => clearFound o c h
    | .byLaneAndKind n kind =>
      if !isLane n then refuse h .noRecord
      else
        match kind with
        | none => refuse h .badRequest
        | some k => clearNamed o n k h

/-- CLEAR_CALL (R147, R148). -/
def execClearCall (header : Header) (target : CallTarget) (s : State) : Result :=
  request header (clearCallAt header.origin target) s

/-! ### CALL LIST (R150) -/

/-- The kinds of an unqueued set, in kind order. -/
def UnqueuedSet.list (u : UnqueuedSet) : List CallKind := callKinds.filter u.has

/-- Every lane whose unqueued set is not empty, with its kinds and its fault code (R150). -/
def House.unqueuedList (h : House) : List (Nat × List CallKind × Option Half) :=
  ((numbers Config.lanes).filter fun n => !(h.unqueued n).list.isEmpty).map fun n =>
    (n, (h.unqueued n).list, (h.unqueued n).faultCode)

/-- The answer body of CALL LIST (R150). -/
def House.callList (h : House) : CallListBody :=
  { calls := h.calls.queue, unqueued := h.unqueuedList, stations := h.calls.stations.toList,
    classMap := h.calls.classMap,
    dispatch := classesDown.reverse.map fun c =>
      (h.calls.dispatch[c], (h.calls.ratioOf c).map fun _ => h.calls.credits[c]) }

/-- CALL LIST at the Call Queue (R150). -/
def callListAt (o : Origin) (h : House) : Reply :=
  if isConsole o then refuse h .notYours else doneWith h (.calls h.callList)

/-- CALL_LIST (R150). -/
def execCallList (header : Header) (s : State) : Result := request header (callListAt header.origin) s

end Sys2Proof.Machine
end

