-- ==== Sys2Proof/Machine/PlanRequests.lean ====
section
/-! DEFINITION. The requests on rate plans (section 9.1), codes 41 to 43. -/

namespace Sys2Proof.Machine

open Sys2Proof

/-- A plan number of the house (R152). -/
def isPlan (p : Nat) : Bool := decide (p < Config.plans)

/-- An OPEN tab uses the plan (R153). -/
def House.planInUse (h : House) (p : Nat) : Bool :=
  (numbers Config.tabs).any fun t => match h.tab t with
    | some r => decide (r.state = .opened) && decide (r.plan = p)
    | none => false

/-- No two bands have the same start minute (R153). -/
def startsDiffer (bands : List Band) : Bool :=
  (List.range bands.length).all fun i =>
    ((bands.take i).all fun b => decide (some b.start ≠ (bands[i]?).map (·.start)))

/-- The bands of a definition are within their checks (09 TABLE 3, the fourth and fifth). -/
def bandsFit (bands : List Band) : Bool :=
  !bands.isEmpty && decide (bands.length ≤ Config.bandRoom) && bands.all (fun b => decide (b.start ≤ 1439)) &&
    startsDiffer bands

/-- A definition of a plan as the request gives it. -/
def givenPlan (kind : PlanKind) (bands : List Band) (increment : Nat) (rounding : Rounding) (minimum : Nat) : RatePlan :=
  { kind := kind, bands := bands, increment := increment, rounding := rounding, minimum := minimum }

/-- The plan with its values clamped (R153). -/
def clampPlan (p : RatePlan) : RatePlan :=
  { p with bands := p.bands.map fun b => { b with price := clamp 0 Config.priceLimit b.price },
           increment := clamp 1 60 p.increment, minimum := clamp 0 Config.priceLimit p.minimum }

/-- The plan with its bands sorted by start minute (R153). -/
def sortPlan (p : RatePlan) : RatePlan := { p with bands := sortBands p.bands }

/-- SET PLAN at the Tab Unit (R153, 09 TABLE 3). -/
def setPlanAt (o : Origin) (p : Nat) (kind : Option PlanKind) (bands : List Band) (increment : Nat)
    (rounding : Option Rounding) (minimum : Nat) (h : House) : Reply :=
  if !isPlan p then refuse h .noRecord
  else if !isDesk o then refuse h .notYours
  else
    match kind, rounding with
    | some kind, some rounding =>
      let given := givenPlan kind bands increment rounding minimum
      if !bandsFit bands then refuse h .outOfRange
      else if h.planInUse p then refuse h .inUse
      else doneOrClamped (decide (clampPlan given ≠ given)) (h.setPlan p (some (sortPlan (clampPlan given))))
    | _, _ => refuse h .badRequest

/-- SET_PLAN (R153). -/
def execSetPlan (header : Header) (plan : Nat) (kind : Option PlanKind) (bands : List Band) (increment : Nat)
    (rounding : Option Rounding) (minimum : Nat) (s : State) : Result :=
  request header (setPlanAt header.origin plan kind bands increment rounding minimum) s

/-- CLEAR PLAN at the Tab Unit (R153). -/
def clearPlanAt (o : Origin) (p : Nat) (h : House) : Reply :=
  if !isPlan p then refuse h .noRecord
  else if !isDesk o then refuse h .notYours
  else if h.planInUse p then refuse h .inUse
  else done (h.setPlan p none)

/-- CLEAR_PLAN (R153). -/
def execClearPlan (header : Header) (plan : Nat) (s : State) : Result := request header (clearPlanAt header.origin plan) s

/-- READ PLAN at the Tab Unit (R153). -/
def readPlanAt (o : Origin) (p : Nat) (h : House) : Reply :=
  if !isPlan p then refuse h .noRecord
  else if !isDesk o then refuse h .notYours
  else doneWith h (.plan p (h.plan p))

/-- READ_PLAN (R153). -/
def execReadPlan (header : Header) (plan : Nat) (s : State) : Result := request header (readPlanAt header.origin plan) s

end Sys2Proof.Machine
end

