-- ==== Sys2Proof/Machine/TabRequests.lean ====
section
/-! DEFINITION. The requests on tabs (chapters 9 and 10), codes 44 to 54. -/

namespace Sys2Proof.Machine

open Sys2Proof

/-! ### Attaching a lane (R14, R154) -/

/-- A new meter slot for lane `n` on a plan: attached, all counts 0, its condition IDLE (R155, R156, R166). -/
def newSlot (n : Nat) (p : Option RatePlan) : MeterSlot :=
  { lane := n, attached := true, bandSeconds := List.replicate ((p.map (·.bands.length)).getD 0) 0, downtime := 0,
    condition := some .idle }

/-- The slots of a tab with lane `n` attached: its own slot continued, or a new one made (R156). DESIGN CHOICE
(log entry 38): the lane attached first stands first. -/
def attachSlot (slots : List MeterSlot) (n : Nat) (p : Option RatePlan) : List MeterSlot :=
  if slots.any fun m => decide (m.lane = n) then
    slots.map fun m => if m.lane = n then { m with attached := true, condition := some .idle } else m
  else slots ++ [newSlot n p]

/-- Tab `t` is written into the tab field of lane `n`, and with auto-wake the Lane Unit starts a wake where the lane is DARK
and its module present (R14). -/
def House.writeTabField (h : House) (n t : Nat) (autoWake : Bool) : House :=
  let h := h.setLane n { h.lane n with tab := some t }
  if autoWake && decide ((h.lane n).mode = .dark) && h.modulePresent n then h.startWake n else h

/-- Lane `n` is attached to tab `t`, whose record is `r` (R155, R156). -/
def House.attachLane (h : House) (t : Nat) (r : TabRecord) (n : Nat) (autoWake : Bool) : House :=
  (h.setTab t (some { r with slots := attachSlot r.slots n (h.plan r.plan) })).writeTabField n t autoWake

/-- A lane that may be attached: DARK, with no tab (09 TABLES 6 and 7). -/
def House.attachable (h : House) (n : Nat) : Bool :=
  decide ((h.lane n).mode = .dark) && (h.lane n).tab.isNone

/-! ### OPEN TAB (R155) -/

/-- The free tab record with the lowest number (R155). -/
def House.freeTab (h : House) : Option Nat := (numbers Config.tabs).find? fun t => (h.tab t).isNone

/-- The record of a tab just opened (R155). -/
def newTab (p : Nat) (a : Allowance) (lead : Nat) : TabRecord :=
  { state := .opened, plan := p, slots := [], gamesStarted := 0, lastStart := 0,
    gameCharges := { amount := 0, held := false }, allowance := a, lead := lead, warning := .none, runOut := false,
    items := [], bill := none }

/-- OPEN TAB when every check has passed, taking record `t` (R155). -/
def openTabAs (t p : Nat) (lane : Option Nat) (autoWake : Bool) (given : Allowance) (lead : Option Nat) (h : House) :
    Reply :=
  let a := clampAllowance 0 given
  let r := newTab p a (clampOr 0 leadLimit 10 lead)
  let opened := match lane with
    | some n => h.attachLane t r n autoWake
    | none => h.setTab t (some r)
  doneOrClamped (decide (a ≠ given) || optionClamped 0 leadLimit lead) opened (.tabOpened t)

/-- A lane operand that is absent or names a lane of the house. -/
def laneOrNone (lane : Option Nat) : Bool := (lane.map isLane).getD true

/-- OPEN TAB at the Tab Unit (R155, 09 TABLE 6). -/
def openTabAt (o : Origin) (p : Nat) (lane : Option Nat) (autoWake : Bool) (allowance : Option (Option Allowance))
    (lead : Option Nat) (h : House) : Reply :=
  if !isDesk o then refuse h .notYours
  else if !isPlan p || !laneOrNone lane then refuse h .noRecord
  else if !h.clock.isSet then refuse h .clockUnset
  else
    match h.freeTab with
    | none => refuse h .full
    | some t =>
      if (h.plan p).isNone then refuse h .wrongState
      else if !((lane.map h.attachable).getD true) then refuse h .wrongState
      else
        match allowance with
        | some none => refuse h .badRequest
        | some (some a) => openTabAs t p lane autoWake a lead h
        | none => openTabAs t p lane autoWake .unlimited lead h

/-- OPEN_TAB (R155). -/
def execOpenTab (header : Header) (plan : Nat) (lane : Option Nat) (autoWake : Bool)
    (allowance : Option (Option Allowance)) (lead : Option Nat) (s : State) : Result :=
  request header (openTabAt header.origin plan lane autoWake allowance lead) s

/-! ### ATTACH (R156) -/

/-- ATTACH at the Tab Unit (R156, 09 TABLE 7). -/
def attachAt (o : Origin) (t n : Nat) (autoWake : Bool) (h : House) : Reply :=
  if !isDesk o then refuse h .notYours
  else
    match h.tab t with
    | none => refuse h .noRecord
    | some r =>
      if !isLane n then refuse h .noRecord
      else if r.state = .due then refuse h .wrongState
      else if !h.attachable n then refuse h .wrongState
      else if r.slots.any fun m => decide (pairOf m.lane ≠ pairOf n) then refuse h .wrongState
      else done (h.attachLane t r n autoWake)

/-- ATTACH (R156). -/
def execAttach (header : Header) (tab lane : Nat) (autoWake : Bool) (s : State) : Result :=
  request header (attachAt header.origin tab lane autoWake) s

/-! ### DETACH (R157) -/

/-- A tab with the slot of lane `n` marked attached no (R157). -/
def TabRecord.release (r : TabRecord) (n : Nat) : TabRecord :=
  { r with slots := r.slots.map fun m => if m.lane = n then { m with attached := false, condition := none } else m }

/-- Lane `n` is detached from its tab, and its closing begins (R157). -/
def House.detachLane (h : House) (n : Nat) : House :=
  match (h.lane n).tab with
  | none => h
  | some t =>
    let h := h.setTab t ((h.tab t).map fun r => r.release n)
    (h.setLane n { h.lane n with tab := none }).beginClosing n

/-- DETACH at the Tab Unit (R157). -/
def detachAt (o : Origin) (n : Nat) (h : House) : Reply :=
  if !isDesk o then refuse h .notYours
  else if !isLane n then refuse h .noRecord
  else if (h.lane n).tab.isNone then refuse h .wrongState
  else done (h.detachLane n)

/-- DETACH (R157). -/
def execDetach (header : Header) (lane : Nat) (s : State) : Result := request header (detachAt header.origin lane) s

/-! ### CLOSE (R158) and SETTLE (R159) -/

/-- Every slot of a tab with attached yes is detached (R158, step 1). DESIGN CHOICE (log entry 36): one lane after the other in
the order of the slots, each with the whole of its closing. -/
def House.detachAll (h : House) (r : TabRecord) : House := r.attachedLanes.foldl House.detachLane h

/-- CLOSE of an OPEN tab (R158): every lane is detached, and then the bill is computed and frozen. -/
def closeOpen (t : Nat) (r : TabRecord) (h : House) : Reply :=
  let h := h.detachAll r
  match h.tab t with
  | none => done h
  | some r =>
    let bill := h.bill t r
    doneWith (h.setTab t (some { r with state := .due, bill := some bill })) (.bill bill)

/-- CLOSE at the Tab Unit (R158). -/
def closeAt (o : Origin) (t : Nat) (h : House) : Reply :=
  if !isDesk o then refuse h .notYours
  else
    match h.tab t with
    | none => refuse h .noRecord
    | some r => if r.state = .due then refuse h .wrongState else closeOpen t r h

/-- CLOSE (R158). -/
def execClose (header : Header) (tab : Nat) (s : State) : Result := request header (closeAt header.origin tab) s

/-- SETTLE at the Tab Unit (R159). -/
def settleAt (o : Origin) (t : Nat) (h : House) : Reply :=
  if !isDesk o then refuse h .notYours
  else
    match h.tab t with
    | none => refuse h .noRecord
    | some r => if r.state = .opened then refuse h .wrongState else done (h.setTab t none)

/-- SETTLE (R159). -/
def execSettle (header : Header) (tab : Nat) (s : State) : Result := request header (settleAt header.origin tab) s

/-! ### ADD ITEM and REMOVE ITEM (R160) -/

/-- The line item of a code. -/
def TabRecord.item (r : TabRecord) (code : Nat) : Option LineItem := r.items.find? fun e => decide (e.code = code)

/-- ADD ITEM of a new code (R160). -/
def addNewItem (t : Nat) (r : TabRecord) (e : LineItem) (clamped : Bool) (h : House) : Reply :=
  if Config.itemRoom ≤ r.items.length then refuse h .full
  else doneOrClamped clamped (h.setTab t (some { r with items := r.items ++ [e] })) (.item e)

/-- ADD ITEM of a code already on the tab (R160): the quantities are added, and the sum held at 99. -/
def addToItem (t : Nat) (r : TabRecord) (old e : LineItem) (clamped : Bool) (h : House) : Reply :=
  if old.price ≠ e.price then refuse h .outOfRange
  else
    let sum := { old with quantity := min (old.quantity + e.quantity) 99 }
    doneOrClamped (clamped || decide (99 < old.quantity + e.quantity))
      (h.setTab t (some { r with items := r.items.map fun x => if x.code = e.code then sum else x })) (.item sum)

/-- ADD ITEM at the Tab Unit (R160, 09 TABLE 8). -/
def addItemAt (o : Origin) (t code quantity price : Nat) (h : House) : Reply :=
  if !isDesk o then refuse h .notYours
  else
    match h.tab t with
    | none => refuse h .noRecord
    | some r =>
      if r.state = .due then refuse h .wrongState
      else if code < 1 ∨ 255 < code then refuse h .outOfRange
      else
        let e : LineItem := { code := code, quantity := clamp 1 99 quantity, price := clamp 0 Config.priceLimit price }
        let clamped := wasClamped 1 99 quantity || wasClamped 0 Config.priceLimit price
        match r.item code with
        | some old => addToItem t r old e clamped h
        | none => addNewItem t r e clamped h

/-- ADD_ITEM (R160). -/
def execAddItem (header : Header) (tab code quantity price : Nat) (s : State) : Result :=
  request header (addItemAt header.origin tab code quantity price) s

/-- REMOVE ITEM at the Tab Unit (R160). -/
def removeItemAt (o : Origin) (t code : Nat) (h : House) : Reply :=
  if !isDesk o then refuse h .notYours
  else
    match h.tab t with
    | none => refuse h .noRecord
    | some r =>
      if (r.item code).isNone then refuse h .noRecord
      else if r.state = .due then refuse h .wrongState
      else done (h.setTab t (some { r with items := r.items.filter fun e => decide (e.code ≠ code) }))

/-- REMOVE_ITEM (R160). -/
def execRemoveItem (header : Header) (tab code : Nat) (s : State) : Result :=
  request header (removeItemAt header.origin tab code) s

/-! ### ADJUST ALLOWANCE (R162) and ACK WARNING (R163) -/

/-- The warning recomputed (R162, step 3). -/
def TabRecord.recomputeWarning (r : TabRecord) : Warning :=
  if r.warningMet then (if r.warning = .acknowledged then .acknowledged else .set) else .none

/-- The tab after steps 1 to 3 of an accepted ADJUST ALLOWANCE (R162). -/
def TabRecord.adjust (r : TabRecord) (a : Allowance) (lead : Nat) : TabRecord :=
  let r := { r with allowance := a, lead := lead }
  { r with runOut := r.runOutMet, warning := r.recomputeWarning }

/-- The reports of an accepted ADJUST ALLOWANCE (R162, step 4). `was` is the run-out mark before it. -/
def House.reportAllowance (h : House) (r : TabRecord) (was : Bool) : House :=
  if !r.runOut then h.reportLifted r.attachedLanes
  else if !was then h.reportRunOut r.attachedLanes
  else h

/-- The answer body of ADJUST ALLOWANCE (R162): the fields of the tab as they now stand, after the report, which may have
started a game on it. -/
def allowanceBody (r : TabRecord) : Body := .allowance r.allowance r.warning r.runOut

/-- ADJUST ALLOWANCE of an OPEN tab (R162). -/
def adjustOpen (t : Nat) (r : TabRecord) (given : Allowance) (lead : Option Nat) (h : House) : Reply :=
  let a := clampAllowance r.gamesStarted given
  let adjusted := r.adjust a (clampOr 0 leadLimit r.lead lead)
  let h' := (h.setTab t (some adjusted)).reportAllowance adjusted r.runOut
  doneOrClamped (decide (a ≠ given) || optionClamped 0 leadLimit lead) h' (allowanceBody ((h'.tab t).getD adjusted))

/-- ADJUST ALLOWANCE at the Tab Unit (R162). -/
def adjustAllowanceAt (o : Origin) (t : Nat) (allowance : Option Allowance) (lead : Option Nat) (h : House) : Reply :=
  if !isDesk o then refuse h .notYours
  else
    match h.tab t with
    | none => refuse h .noRecord
    | some r =>
      if r.state = .due then refuse h .wrongState
      else
        match allowance with
        | none => refuse h .badRequest
        | some a => adjustOpen t r a lead h

/-- ADJUST_ALLOWANCE (R162). -/
def execAdjustAllowance (header : Header) (tab : Nat) (allowance : Option Allowance) (lead : Option Nat) (s : State) :
    Result :=
  request header (adjustAllowanceAt header.origin tab allowance lead) s

/-- ACK WARNING at the Tab Unit (R163). -/
def ackWarningAt (o : Origin) (t : Nat) (h : House) : Reply :=
  if !isDesk o then refuse h .notYours
  else
    match h.tab t with
    | none => refuse h .noRecord
    | some r =>
      if r.state = .due then refuse h .wrongState
      else
        match r.warning with
        | .none => refuse h .wrongState
        | .set => done (h.setTab t (some { r with warning := .acknowledged }))
        | .acknowledged => done h

/-- ACK_WARNING (R163). -/
def execAckWarning (header : Header) (tab : Nat) (s : State) : Result := request header (ackWarningAt header.origin tab) s

/-! ### READ TAB (R164) and BILL (R172) -/

/-- The bands of a tab: of its plan, or, for a DUE tab, those its frozen bill holds (R164). -/
def House.tabBands (h : House) (r : TabRecord) : List Band :=
  match r.bill with
  | some b => ((b.slots.head?.map (·.bands)).getD []).map fun l => { start := l.start, price := l.price }
  | none => ((h.plan r.plan).map (·.bands)).getD []

/-- Each slot's seconds in the bands: those of its meter slot, or, for a DUE tab, those its frozen bill holds (R164). -/
def tabSeconds (r : TabRecord) : List (List Nat) :=
  match r.bill with
  | some b => b.slots.map fun l => l.bands.map (·.seconds)
  | none => r.slots.map (·.bandSeconds)

/-- The answer body of READ TAB (R164). -/
def House.tabBody (h : House) (t : Nat) (r : TabRecord) : TabBody :=
  { number := t, record := r, meteredTotals := r.slots.map MeterSlot.total, bands := h.tabBands r,
    bandSeconds := tabSeconds r }

/-- READ TAB at the Tab Unit (R164). -/
def readTabAt (o : Origin) (t : Nat) (h : House) : Reply :=
  match h.tab t with
  | none => refuse h .noRecord
  | some r =>
    if !(isDesk o || consoleHasSlot r o) then refuse h .notYours else doneWith h (.tab (h.tabBody t r))

/-- READ_TAB (R164). -/
def execReadTab (header : Header) (tab : Nat) (s : State) : Result := request header (readTabAt header.origin tab) s

/-- The bill BILL answers (R172): the frozen bill of a DUE tab, one computed afresh for an OPEN one. -/
def House.billNow (h : House) (t : Nat) (r : TabRecord) : Bill :=
  match r.state, r.bill with
  | .due, some b => b
  | _, _ => h.bill t r

/-- BILL at the Tab Unit (R172). -/
def billAt (o : Origin) (t : Nat) (h : House) : Reply :=
  match h.tab t with
  | none => refuse h .noRecord
  | some r =>
    if !(isDesk o || (decide (r.state = .opened) && consoleHasSlot r o)) then refuse h .notYours
    else doneWith h (.bill (h.billNow t r))

/-- BILL (R172). -/
def execBill (header : Header) (tab : Nat) (s : State) : Result := request header (billAt header.origin tab) s

end Sys2Proof.Machine
end

