-- ==== Sys2Proof/Machine/HouseRequests.lean ====
section
/-! DEFINITION. The requests on the house itself (chapter 11), codes 55 to 59: each is the desk's alone. -/

namespace Sys2Proof.Machine

open Sys2Proof

/-- ATTENTION SUMMARY at the House Link Port (R177). -/
def attentionSummaryAt (o : Origin) (h : House) : Reply :=
  if !isDesk o then refuse h .notYours else doneWith h (.summary h.port.summary)

/-- ATTENTION_SUMMARY (R177). -/
def execAttentionSummary (header : Header) (s : State) : Result := request header (attentionSummaryAt header.origin) s

/-- The largest values of the fields of SET CLOCK (R180). -/
def clockClamped (day hour minute second : Nat) : Bool :=
  wasClamped 0 65535 day || wasClamped 0 23 hour || wasClamped 0 59 minute || wasClamped 0 59 second

/-- The clock with a date and a time of day written, and its set mark yes (R180). The timebase and the tenths of the second in
progress stay. -/
def Clock.write (c : Clock) (day hour minute second : Nat) : Clock :=
  { c with isSet := true, day := clamp 0 65535 day,
           time := clamp 0 23 hour * 3600 + clamp 0 59 minute * 60 + clamp 0 59 second }

/-- SET CLOCK at the House Clock (R180). -/
def setClockAt (o : Origin) (day hour minute second : Nat) (h : House) : Reply :=
  if !isDesk o then refuse h .notYours
  else
    doneOrClamped (clockClamped day hour minute second) { h with clock := h.clock.write day hour minute second }

/-- SET_CLOCK (R180). -/
def execSetClock (header : Header) (day hour minute second : Nat) (s : State) : Result :=
  request header (setClockAt header.origin day hour minute second) s

/-- READ CLOCK at the House Clock (R180). -/
def readClockAt (o : Origin) (h : House) : Reply :=
  if !isDesk o then refuse h .notYours else doneWith h (.clock h.clock.isSet h.stamp)

/-- READ_CLOCK (R180). -/
def execReadClock (header : Header) (s : State) : Result := request header (readClockAt header.origin) s

/-- READ RESTART at the Record Memory (R182). -/
def readRestartAt (o : Origin) (h : House) : Reply :=
  if !isDesk o then refuse h .notYours
  else doneWith h (.restart h.memory.cause h.memory.previous h.memory.sbokGood h.clock.isSet)

/-- READ_RESTART (R182). -/
def execReadRestart (header : Header) (s : State) : Result := request header (readRestartAt header.origin) s

/-- RESTART at the Record Memory (R181): the answer is given, and the warm start that follows it is owed. -/
def restartAt (o : Origin) (h : House) : Reply :=
  if !isDesk o then refuse h .notYours
  else done { h with memory := { h.memory with restartOwed := true } }

/-- RESTART (R181). -/
def execRestart (header : Header) (s : State) : Result := request header (restartAt header.origin) s

end Sys2Proof.Machine
end

