-- ==== Sys2Proof/Machine/Start.lean ====
section
/-! DEFINITION. The start of the part (section 11.5): what a warm and a cold start do, and the supply and RESET events that
make them. -/

namespace Sys2Proof.Machine

open Sys2Proof

/-! ### The warm start (R26, R49, R97, R125, R136, R151, R165, R174, R181, R182) -/

/-- The hold causes of a playing lane after a warm start (R26): those it held, with RESTART and LINK, and CALL afresh. -/
def CauseSet.restarted (c : CauseSet) (blocked : Bool) : CauseSet :=
  { c with restart := true, link := true, call := blocked }

/-- A lane record after a warm start (R26, R49, R125). `blocked` answers the CALL question of R8. -/
def LaneRecord.restart (l : LaneRecord) (blocked : Bool) : LaneRecord :=
  let kept := l.abandon
  if l.keepsCauses then { kept with mode := .held, causes := l.causes.restarted blocked, warmUp := none } else kept

/-- A return record after a warm start (R136). -/
def ReturnRecord.restart (r : ReturnRecord) : ReturnRecord := { r with outstanding := [], deadline := none }

/-- A module slot after a warm start: absent, with its capabilities kept (R181). -/
def ModuleSlot.restart (m : ModuleSlot) : ModuleSlot := { ModuleSlot.cold with capabilities := m.capabilities }

/-- The Call Queue after a warm start (R151): TAKEN calls are WAITING, the stations hold none, and the credits are 0. -/
def CallQueue.restart (q : CallQueue) : CallQueue :=
  { q with queue := q.queue.map (fun c => { c with station := none }), stations := Vector.replicate 4 [],
           credits := noCredits }

/-- The Machine Link Port after a start (R181): polling begins again at module 1. -/
def MachinePort.restart (p : MachinePort) : MachinePort :=
  { slots := (numbers Config.pairs).foldl (fun v k => numSet v k (numGet v .cold k).restart) p.slots, turn := 1,
    pollOut := none, lastFrame := [] }

/-- The causes after a warm start: the latest becomes the previous (R182). The validity mark is set (R181). DESIGN CHOICE (log
entry 11): a start still owed to a RESTART is dropped, since any start takes its place. -/
def RecordMemory.restarted (m : RecordMemory) (cause : RestartCause) : RecordMemory :=
  { m with cause := cause, previous := some m.cause, valid := true, startWaits := false, restartOwed := false }

/-- Every lane record restored (R26). -/
def House.restartLanes (h : House) : House :=
  (numbers Config.lanes).foldl (fun h n => h.setLane n ((h.lane n).restart (h.blocked n))) h

/-- Every return record restored (R136). -/
def House.restartReturns (h : House) : House :=
  (numbers Config.pairs).foldl (fun h p => h.setRet p (h.ret p).restart) h

/-- Every attached slot takes its condition from its lane (R174). -/
def House.reportAll (h : House) : House := (numbers Config.lanes).foldl House.report h

/-- A warm start (R181). -/
def House.warmStart (h : House) (cause : RestartCause) : House :=
  let h := { h with
    calls := h.calls.restart, machine := h.machine.restart,
    port := { h.port with framing := .hunt, gathered := [] }, memory := h.memory.restarted cause }
  h.restartLanes.restartReturns.reportAll

/-! ### The cold start (R25, R181, R182) -/

/-- The Record Memory after a cold start: the two supplies and the RESET line are as they stand. -/
def RecordMemory.coldAs (m : RecordMemory) : RecordMemory :=
  { RecordMemory.cold with mainPower := m.mainPower, sbokGood := m.sbokGood, resetHeld := m.resetHeld }

/-- A cold start (R181): every record takes its cold values. The answers given are the model's own record of the transmit
line, and stay. -/
def House.coldStart (h : House) : House :=
  { House.cold with port := { HousePort.cold with answers := h.port.answers }, memory := h.memory.coldAs }

/-- The start that the validity mark decides (R181). -/
def House.startByMark (h : House) : House := if h.memory.valid then h.warmStart .supplyKept else h.coldStart

/-! ### The start after RESTART (R181) -/

/-- RESTART_START (R181): made where the answer to a RESTART has been sent and the start is still owed. -/
def execRestartStart (s : State) : Result :=
  event (fun h => if h.memory.restartOwed then h.warmStart .request else h) s

/-! ### Supply and RESET (R181) -/

/-- A step that is taken whether or not the part runs. -/
def lineEvent (effect : House → House) (s : State) : Result := .next (s.withHouse (effect s.house))

/-- The validity mark is cleared while SBOK reads low with main power absent (R181). -/
def RecordMemory.checkMark (m : RecordMemory) : RecordMemory :=
  { m with valid := m.valid && (m.mainPower || m.sbokGood) }

/-- Main power is lost: no start waits any more, and the mark follows SBOK (R181). -/
def RecordMemory.losePower (m : RecordMemory) : RecordMemory :=
  { m with mainPower := false, startWaits := false, restartOwed := false }.checkMark

/-- MAIN_POWER_LOST (R181). -/
def execMainPowerLost (s : State) : Result :=
  lineEvent (fun h => { h with memory := h.memory.losePower }) s

/-- SBOK reads low, and goes on reading low where it stays so (R181). -/
def RecordMemory.sagged (m : RecordMemory) (staysLow : Bool) : RecordMemory :=
  let low := { m with sbokGood := false }.checkMark
  { low with sbokGood := !staysLow }

/-- SBOK_LOW (R181). -/
def execSbokLow (staysLow : Bool) (s : State) : Result :=
  lineEvent (fun h => { h with memory := h.memory.sagged staysLow }) s

/-- Main power returns (R181): the start is made, or waits for the release of RESET. -/
def House.powerReturns (h : House) : House :=
  if h.memory.mainPower then h
  else if h.memory.resetHeld then { h with memory := { h.memory with mainPower := true, startWaits := true } }
  else ({ h with memory := { h.memory with mainPower := true } } : House).startByMark.settle

/-- POWER_RETURN (R181). -/
def execPowerReturn (s : State) : Result := lineEvent House.powerReturns s

/-- RESET_ASSERTED (R181). -/
def execResetAsserted (s : State) : Result :=
  lineEvent (fun h => { h with memory := { h.memory with resetHeld := true } }) s

/-- RESET is released (R181): with main power present a start is made, a warm one with cause RESET_LINE unless a start
waited for the release. -/
def House.resetReleases (h : House) : House :=
  if !h.memory.resetHeld then h
  else
    let h' := { h with memory := { h.memory with resetHeld := false } }
    if !h.memory.mainPower then h'
    else if h.memory.startWaits then h'.startByMark.settle
    else (h'.warmStart .resetLine).settle

/-- RESET_RELEASED (R181). -/
def execResetReleased (s : State) : Result := lineEvent House.resetReleases s

end Sys2Proof.Machine
end

