-- ==== Sys2Proof/Machine/Events.lean ====
section
/-! DEFINITION. The module events (11 TABLE 7) as their owning blocks take them, by the lane's mode (01 TABLE 4). -/

namespace Sys2Proof.Machine

open Sys2Proof

/-! ### READY (R15) -/

/-- READY for lane `n`: it ends a warm-up, and is ignored in every other mode (R15). -/
def House.takeReady (h : House) (n : Nat) : House := if (h.lane n).mode = .warming then h.comeUp n else h

/-- READY (R15). -/
def execReady (lane : Nat) (s : State) : Result := moduleEvent (pairOf lane) (fun h => h.takeReady lane) s

/-! ### BALL_SEEN (R23, R24, R28, R29, R127) -/

/-- A ball seen on lane `n`, at the Lane Unit (01 TABLE 4). -/
def House.laneBall (h : House) (n : Nat) (speed : Option Half) : House :=
  match (h.lane n).mode with
  | .out | .dark | .warming => if (h.lane n).options.pitCall then h.raiseCall n .ballInPit else h
  | .live | .held => h.playedBall n speed
  | .closing => h

/-- BALL_SEEN for lane `n`, at the Lane Unit and at the Return Monitor by the mode the lane holds when it is taken (R127).
DESIGN CHOICE (log entry 34): the Lane Unit takes the event first. -/
def House.takeBallSeen (h : House) (n : Nat) (speed : Option Half) : House :=
  (h.laneBall n speed).countOut n (h.lane n).mode

/-- BALL_SEEN (R28). -/
def execBallSeen (lane : Nat) (speed : Option Half) (s : State) : Result :=
  moduleEvent (pairOf lane) (fun h => h.takeBallSeen lane speed) s

/-! ### FOUL (R30) -/

/-- The lane record after a FOUL on a playing lane (R30). -/
def LaneRecord.foul (l : LaneRecord) (now : Nat) : LaneRecord :=
  match l.delivery with
  | some d => { l with delivery := some { d with foul := true } }
  | none => { l with foulMark := some (now + Config.foulWindow) }

/-- FOUL for lane `n` (R30): ignored unless the lane is LIVE or HELD. -/
def House.takeFoul (h : House) (n : Nat) : House :=
  if (h.lane n).playing then h.setLane n ((h.lane n).foul h.now) else h

/-- FOUL (R30). -/
def execFoul (lane : Nat) (s : State) : Result := moduleEvent (pairOf lane) (fun h => h.takeFoul lane) s

/-! ### DECK_READ (R32, R33, R17, R24) -/

/-- DECK_READ for lane `n` (01 TABLE 4). -/
def House.takeDeckRead (h : House) (n : Nat) (reading : PinSet) : House :=
  match (h.lane n).mode with
  | .live | .held => h.readDeck n reading
  | .closing => if (h.lane n).delivery.isSome then h.closingDeliveryEnds n else h
  | .out | .dark | .warming => h

/-- DECK_READ (R32). -/
def execDeckRead (lane : Nat) (reading : PinSet) (s : State) : Result :=
  moduleEvent (pairOf lane) (fun h => h.takeDeckRead lane reading) s

/-! ### CYCLE_DONE (R39, R40, R17, R24) -/

/-- CYCLE_DONE for lane `n` (01 TABLE 4). -/
def House.takeCycleDone (h : House) (n : Nat) (verification : Option PinSet) : House :=
  match (h.lane n).mode, (h.lane n).cycle with
  | .live, _ | .held, _ => h.finishCycle n verification
  | .closing, some c => h.closingCycleEnds n c (c.commanded.getD noPins)
  | _, _ => h

/-- CYCLE_DONE (R39). -/
def execCycleDone (lane : Nat) (verification : Option PinSet) (s : State) : Result :=
  moduleEvent (pairOf lane) (fun h => h.takeCycleDone lane verification) s

/-! ### FAULT (R42, R23, R17) -/

/-- FAULT for lane `n` (01 TABLE 4): a MACHINE_JAM call in every mode, and then the end of any cycle in flight. -/
def House.takeFault (h : House) (n : Nat) (code : Half) : House :=
  let h := h.raiseCall n .machineJam (some code)
  match (h.lane n).mode, (h.lane n).cycle with
  | .live, some _ | .held, some _ => h.setLane n (h.lane n).dropCycle
  | .closing, some c => h.closingCycleEnds n c noPins
  | _, _ => h

/-- FAULT (R42). -/
def execFault (lane : Nat) (code : Half) (s : State) : Result :=
  moduleEvent (pairOf lane) (fun h => h.takeFault lane code) s

/-! ### BALL_BACK (R128), RETURN_FAULT (R130) and PRESENT (R48) -/

/-- BALL_BACK (R128). -/
def execBallBack (pair : Nat) (s : State) : Result := moduleEvent pair (fun h => h.countBack pair) s

/-- RETURN_FAULT (R130). -/
def execReturnFault (pair : Nat) (s : State) : Result := moduleEvent pair (fun h => h.raiseJam pair .fault) s

/-- PRESENT (R48, R179). It is taken of an absent module, which it declares present, and of a present one. -/
def execPresent (pair : Nat) (capabilities : Capabilities) (s : State) : Result :=
  event (fun h => h.takePresent pair capabilities) s

end Sys2Proof.Machine
end

