-- ==== Sys2Proof/Machine/Timers.lean ====
section
/-! DEFINITION. The timers: the deadlines of the deck, the warm-up and the return, each of which acts once the timebase has
reached it, and the second boundary with its meters. -/

namespace Sys2Proof.Machine

open Sys2Proof

/-! ### The reading deadline (R34, R111, R17) -/

/-- The reading deadline of lane `n` (R34): it acts on a delivery whose deadline has been reached. -/
def House.readingExpires (h : House) (n : Nat) : House :=
  match (h.lane n).delivery with
  | none => h
  | some d =>
    if !h.reached d.deadline then h
    else if (h.lane n).mode = .closing then h.closingDeliveryEnds n
    else if d.reRead then h.readerFail n
    else h.noReading n d

/-- READING_DEADLINE (R34). -/
def execReadingDeadline (lane : Nat) (s : State) : Result := event (fun h => h.readingExpires lane) s

/-! ### The cycle deadline (R41, R17) -/

/-- The deadline of the cycle of lane `n` (R41): the cycle has timed out, and a CYCLE_TIMEOUT call is raised. -/
def House.cycleExpires (h : House) (n : Nat) : House :=
  match (h.lane n).cycle with
  | none => h
  | some c =>
    if h.now < c.deadline then h
    else if (h.lane n).mode = .closing then (h.raiseCall n .cycleTimeout).closingCycleEnds n c noPins
    else (h.setLane n (h.lane n).dropCycle).raiseCall n .cycleTimeout

/-- CYCLE_DEADLINE (R41). -/
def execCycleDeadline (lane : Nat) (s : State) : Result := event (fun h => h.cycleExpires lane) s

/-! ### The foul window (R31) -/

/-- The expiry of the foul mark pending of lane `n` (R31). -/
def House.foulExpires (h : House) (n : Nat) : House :=
  if h.reached (h.lane n).foulMark then h.setLane n { h.lane n with foulMark := none } else h

/-- FOUL_WINDOW_EXPIRY (R31). -/
def execFoulWindowExpiry (lane : Nat) (s : State) : Result := event (fun h => h.foulExpires lane) s

/-! ### The warm-up deadline (R16) -/

/-- The warm-up deadline of lane `n` (R16): a WAKE_FAIL call is raised, and the lane stays WARMING. -/
def House.warmUpExpires (h : House) (n : Nat) : House :=
  if decide ((h.lane n).mode = .warming) && h.reached (h.lane n).warmUp then
    (h.setLane n { h.lane n with warmUp := none }).raiseCall n .wakeFail
  else h

/-- WARM_UP_DEADLINE (R16). -/
def execWarmUpDeadline (lane : Nat) (s : State) : Result := event (fun h => h.warmUpExpires lane) s

/-! ### The return deadline (R129) -/

/-- The return deadline of pair `p` (R129): it acts in NORMAL. -/
def House.returnDue (h : House) (p : Nat) : House :=
  if (h.ret p).jam.isNone && h.reached (h.ret p).deadline then h.returnExpires p else h

/-- RETURN_DEADLINE (R129). -/
def execReturnDeadline (pair : Nat) (s : State) : Result := event (fun h => h.returnDue pair) s

/-! ### The second boundary (R167, R168, R180) -/

/-- The clock a second later, whether or not it is set (R180). -/
def Clock.tickSecond (c : Clock) : Clock :=
  if c.time + 1 < 86400 then { c with time := c.time + 1 }
  else { c with time := 0, day := if c.day + 1 < 65536 then c.day + 1 else 0 }

/-- The clock at the end of the second in progress: the timebase reaches the boundary (R180). -/
def Clock.completeSecond (c : Clock) : Clock := { c with timebase := c.timebase + (10 - c.phase), phase := 0 }.tickSecond

/-- Tab `t` at a second boundary that ends a second of minute `m` (R167, R168). -/
def House.meterTab (h : House) (m t : Nat) : House :=
  match h.tab t with
  | none => h
  | some r =>
    if r.state = .due then h
    else
      let band := bandAt ((h.plan r.plan).getD .undefined).bands m
      let r' := r.second band
      let h := h.setTab t (some r')
      if r'.runOut && !r.runOut then h.reportRunOut r'.attachedLanes else h

/-- Every tab at a second boundary that ends a second of minute `m`, in ascending number. -/
def House.meterAll (h : House) (m : Nat) : House := (numbers Config.tabs).foldl (fun h t => h.meterTab m t) h

/-- A second boundary (R167, R180): the clock advances, and every attached slot is advanced at the minute of the second just
ended. While the part does not run the clock advances alone (R181). -/
def House.secondBoundary (h : House) : House :=
  if !h.runs then { h with clock := { h.clock with phase := 0 }.tickSecond }
  else (({ h with clock := h.clock.completeSecond } : House).meterAll (minuteOf h.clock.time)).settle

/-- SECOND_BOUNDARY (R167). -/
def execSecondBoundary (s : State) : Result := lineEvent House.secondBoundary s

end Sys2Proof.Machine
end

