-- ==== Sys2Proof/Machine/Check.lean ====
section
/-! DEFINITION. The check that closes every frame of both links (R175), and the two-byte values of the layouts (11.6). -/

namespace Sys2Proof.Machine

open Sys2Proof

/-- The generator of the check, x¹⁶ + x¹² + x⁵ + 1 without its highest power (R175). -/
abbrev generator : BitVec 16 := 0x1021#16

/-- One bit of the check, highest first and not reflected. -/
def crcBit (c : BitVec 16) : BitVec 16 := if c.msb then (c <<< 1) ^^^ generator else c <<< 1

/-- One byte of the check. -/
def crcByte (c : BitVec 16) (b : Byte) : BitVec 16 :=
  crcBit (crcBit (crcBit (crcBit (crcBit (crcBit (crcBit (crcBit (c ^^^ (b.setWidth 16 <<< 8)))))))))

/-- CRC-16 over bytes, with starting value all ones and no final inversion (R175). -/
def crc (bytes : List Byte) : BitVec 16 := bytes.foldl crcByte 0xFFFF#16

/-- A two-byte value, high byte first (11.6). -/
def halfBytes (v : BitVec 16) : List Byte := [v.extractLsb' 8 8, v.extractLsb' 0 8]

/-- The two-byte value of a high and a low byte. -/
def halfOf (high low : Byte) : Half := high ++ low

/-- Bytes closed by their check, high byte first. -/
def closeFrame (bytes : List Byte) : List Byte := bytes ++ halfBytes (crc bytes)

/-- The bytes end in the check over the bytes before it. -/
def checks (bytes : List Byte) : Bool :=
  decide (2 ≤ bytes.length) &&
    decide (bytes.drop (bytes.length - 2) = halfBytes (crc (bytes.take (bytes.length - 2))))

end Sys2Proof.Machine
end

