-- ==== Sys2Proof/Machine/HouseFrames.lean ====
section
/-! DEFINITION. The house link (section 11.1): the receive framing of R175, the header checks of R176, the requests as their
owning units take them, and the frame of an answer. -/

namespace Sys2Proof.Machine

open Sys2Proof

/-! ### The framing (R175) -/

/-- The framing back in HUNT, with any partial frame dropped (R175). -/
def House.hunt (h : House) : House := { h with port := { h.port with framing := .hunt, gathered := [] } }

/-- FRAME_DROPPED (R175). -/
def execFrameDropped (s : State) : Result := event House.hunt s

/-- A gap between two bytes of one frame, which drops it (R175). In HUNT there is no frame to drop. -/
def House.frameGap (h : House) : House :=
  match h.port.framing with
  | .hunt => h
  | .header | .body => h.hunt

/-- FRAME_GAP_TIMEOUT (R175). -/
def execFrameGapTimeout (s : State) : Result := event House.frameGap s

/-- The end of LINK-CLEAR: the framing is in HUNT and any partly gathered frame is dropped (R175). -/
def House.linkClear (h : House) : House := { h with port := { h.port with framing := .hunt, gathered := [] } }

/-- LINK_CLEAR (R175). -/
def execLinkClear (s : State) : Result := event House.linkClear s

/-! ### Header checks (R176) -/

/-- A frame that fails the header checks is answered REFUSED BAD_REQUEST (R176). -/
def House.refuseHeader (h : House) (sequence : Byte) : House :=
  h.answer { sequence := sequence, result := .refused .badRequest, body := .empty }

/-- HEADER_REFUSED (R176): the frame has been gathered, so the framing is in HUNT again. No frame is taken while a warm
start waits for the answer to RESTART (R181). -/
def execHeaderRefused (sequence : Byte) (s : State) : Result :=
  event (fun h => if h.memory.restartOwed then h.hunt else h.hunt.refuseHeader sequence) s

/-- The origin that an origin kind byte and an origin number byte name (11 TABLE 3). -/
def originOf (kind number : Byte) : Option Origin :=
  let o : Option Origin :=
    if kind = 0#8 then (if number = 0#8 then some .desk else none)
    else if kind = 1#8 then some (.console number.toNat)
    else if kind = 2#8 then some (.station number.toNat)
    else none
  o.filter originInRange

/-! ### Requests at their owning units (R176) -/

/-- A request as the House Link Port passes it on: its kind code (11 TABLE 1), its header, and what its owning unit makes
of it. -/
structure Passed where
  code : Nat
  header : Header
  unit : House → Reply

/-- The requests among the commands (11 TABLE 1). -/
def asRequest (i : Instr) : Option Passed :=
  match i with
  | .laneStatus hd n => some ⟨1, hd, laneStatus hd.origin n⟩
  | .setLaneOptions hd n e => some ⟨2, hd, setLaneOptions hd.origin n e⟩
  | .deskHold hd n => some ⟨3, hd, deskHold hd.origin n⟩
  | .deskRelease hd n c => some ⟨4, hd, deskRelease hd.origin n c⟩
  | .wake hd n => some ⟨5, hd, wakeLane hd.origin n⟩
  | .laneOut hd n => some ⟨6, hd, laneOut hd.origin n⟩
  | .laneIn hd n => some ⟨7, hd, laneIn hd.origin n⟩
  | .laneReset hd n => some ⟨8, hd, laneReset hd.origin n⟩
  | .move hd a b => some ⟨9, hd, moveLanes hd.origin a b⟩
  | .manualEntry hd n after foul => some ⟨10, hd, manualEntry hd.origin n after foul⟩
  | .setDiscrepancyMask hd n bits => some ⟨11, hd, setDiscrepancyMask hd.origin n bits⟩
  | .resolve hd n action => some ⟨12, hd, resolveLane hd.origin n action⟩
  | .clearFlags hd n kinds => some ⟨13, hd, clearFlags hd.origin n kinds⟩
  | .readFaultContext hd n => some ⟨14, hd, readFaultContext hd.origin n⟩
  | .formSquad hd n bowlers auto rule => some ⟨15, hd, formSquadOn hd.origin n bowlers auto rule⟩
  | .addBowler hd q e => some ⟨16, hd, addBowlerTo hd.origin q e⟩
  | .setOrder hd q order => some ⟨17, hd, setOrderOf hd.origin q order⟩
  | .markAway hd k => some ⟨18, hd, markAwayBowler hd.origin k⟩
  | .markBack hd k => some ⟨19, hd, markBackBowler hd.origin k⟩
  | .removeBowler hd k => some ⟨20, hd, removeBowlerFrom hd.origin k⟩
  | .setBowler hd k tag average => some ⟨21, hd, setBowlerRecord hd.origin k tag average⟩
  | .setSquad hd q auto e => some ⟨22, hd, setSquadRecord hd.origin q auto e⟩
  | .endSquad hd q => some ⟨23, hd, endSquadOf hd.origin q⟩
  | .readSquad hd q => some ⟨24, hd, readSquadRecord hd.origin q⟩
  | .readBowler hd k => some ⟨25, hd, readBowlerRecord hd.origin k⟩
  | .startGame hd n => some ⟨26, hd, startGame hd.origin n⟩
  | .pairPlay hd p auto => some ⟨27, hd, pairPlayOn hd.origin p auto⟩
  | .endPairPlay hd p => some ⟨28, hd, endPairPlayOn hd.origin p⟩
  | .correctBall hd k f b after foul => some ⟨29, hd, correctBallOf hd.origin k f b after foul⟩
  | .returnClear hd p => some ⟨30, hd, returnClear hd.origin p⟩
  | .setReturnTimeout hd p seconds => some ⟨31, hd, setReturnTimeout hd.origin p seconds⟩
  | .returnStatus hd p => some ⟨32, hd, returnStatus hd.origin p⟩
  | .assist hd n => some ⟨33, hd, assistCall hd.origin n⟩
  | .deskCall hd n => some ⟨34, hd, deskCallFor hd.origin n⟩
  | .setClassMap hd classes => some ⟨35, hd, setClassMap hd.origin classes⟩
  | .setDispatch hd settings => some ⟨36, hd, setDispatch hd.origin settings⟩
  | .nextCall hd k => some ⟨37, hd, nextCallAt hd.origin k⟩
  | .returnCall hd number => some ⟨38, hd, returnCallOf hd.origin number⟩
  | .clearCall hd target => some ⟨39, hd, clearCallAt hd.origin target⟩
  | .callList hd => some ⟨40, hd, callListAt hd.origin⟩
  | .setPlan hd p kind bands increment rounding minimum =>
    some ⟨41, hd, setPlanAt hd.origin p kind bands increment rounding minimum⟩
  | .clearPlan hd p => some ⟨42, hd, clearPlanAt hd.origin p⟩
  | .readPlan hd p => some ⟨43, hd, readPlanAt hd.origin p⟩
  | .openTab hd p lane auto allowance lead => some ⟨44, hd, openTabAt hd.origin p lane auto allowance lead⟩
  | .attach hd t n auto => some ⟨45, hd, attachAt hd.origin t n auto⟩
  | .detach hd n => some ⟨46, hd, detachAt hd.origin n⟩
  | .close hd t => some ⟨47, hd, closeAt hd.origin t⟩
  | .settle hd t => some ⟨48, hd, settleAt hd.origin t⟩
  | .addItem hd t code quantity price => some ⟨49, hd, addItemAt hd.origin t code quantity price⟩
  | .removeItem hd t code => some ⟨50, hd, removeItemAt hd.origin t code⟩
  | .adjustAllowance hd t allowance lead => some ⟨51, hd, adjustAllowanceAt hd.origin t allowance lead⟩
  | .ackWarning hd t => some ⟨52, hd, ackWarningAt hd.origin t⟩
  | .readTab hd t => some ⟨53, hd, readTabAt hd.origin t⟩
  | .bill hd t => some ⟨54, hd, billAt hd.origin t⟩
  | .attentionSummary hd => some ⟨55, hd, attentionSummaryAt hd.origin⟩
  | .setClock hd day hour minute second => some ⟨56, hd, setClockAt hd.origin day hour minute second⟩
  | .readClock hd => some ⟨57, hd, readClockAt hd.origin⟩
  | .readRestart hd => some ⟨58, hd, readRestartAt hd.origin⟩
  | .restart hd => some ⟨59, hd, restartAt hd.origin⟩
  | .restartStart | .headerRefused _ | .frameDropped | .frameGapTimeout | .linkClear | .poll | .pollAnswer _
  | .pollNoAnswer | .present _ _ | .ready _ | .ballSeen _ _ | .foul _ | .deckRead _ _ | .cycleDone _ _ | .fault _ _
  | .ballBack _ | .returnFault _ | .readingDeadline _ | .cycleDeadline _ | .foulWindowExpiry _ | .warmUpDeadline _
  | .returnDeadline _ | .secondBoundary | .mainPowerLost | .sbokLow _ | .powerReturn | .resetAsserted | .resetReleased
  | .receiveByte _ => none

/-- The request that a body names, where it is one of the frame's request kind and header (log entry 3). -/
def readRequest (code : Nat) (header : Header) (body : List Byte) : Option Passed :=
  ((Config.readBody code header body).bind asRequest).filter fun p =>
    decide (p.code = code) && decide (p.header = header)

/-- A good frame is handed on (R176): the header checks, and then the owning unit. -/
def House.handOn (h : House) (kind number code sequence : Byte) (body : List Byte) : House :=
  match originOf kind number with
  | none => h.refuseHeader sequence
  | some o =>
    match readRequest code.toNat { origin := o, sequence := sequence } body with
    | none => h.refuseHeader sequence
    | some p => h.takeRequest p.header p.unit

/-- The frame gathered, from its origin kind byte to its last check byte, is complete (R175): dropped where its check does not
match or a warm start waits for the answer to RESTART (R181), handed on otherwise. -/
def House.frameComplete (h : House) (frame : List Byte) : House :=
  if !checks frame || h.memory.restartOwed then h.hunt
  else
    match frame with
    | kind :: number :: code :: sequence :: _ :: rest =>
      h.hunt.handOn kind number code sequence (rest.take (rest.length - 2))
    | _ => h.hunt

/-- A byte joins the frame being gathered. -/
def House.gather (h : House) (framing : Framing) (bytes : List Byte) : House :=
  { h with port := { h.port with framing := framing, gathered := bytes } }

/-- A byte is taken by the receive framing (R175). The bytes gathered stand without the start byte: the body length byte is
the fifth, and the frame is whole when its body and two check bytes have followed it. -/
def House.takeByte (h : House) (b : Byte) : House :=
  let bytes := h.port.gathered ++ [b]
  match h.port.framing with
  | .hunt => if b = Config.houseStart then h.gather .header [] else h
  | .header =>
    if bytes.length < 5 then h.gather .header bytes
    else if Config.bodyRoom < b.toNat then h.hunt
    else h.gather .body bytes
  | .body =>
    if bytes.length < 5 + ((bytes.getD 4 0#8).toNat + 2) then h.gather .body bytes else h.frameComplete bytes

/-- RECEIVE_BYTE (R175). -/
def execReceiveByte (value : Byte) (s : State) : Result := event (fun h => h.takeByte value) s

/-! ### Answer frames (11 TABLES 2 and 3) -/

/-- The code of a reason (11 TABLE 2). -/
def reasonCode (r : Reason) : Byte :=
  match r with
  | .noRecord => 1#8
  | .notYours => 2#8
  | .wrongState => 3#8
  | .full => 4#8
  | .outOfRange => 5#8
  | .inFlight => 6#8
  | .inUse => 7#8
  | .clockUnset => 8#8
  | .noMachine => 9#8
  | .allowance => 10#8
  | .limit => 11#8
  | .badRequest => 12#8

/-- The result code and the reason code of a result (11 TABLE 2). -/
def verdictCodes (v : Verdict) : Byte × Byte :=
  match v with
  | .done => (0#8, 0#8)
  | .clamped => (1#8, 0#8)
  | .waking => (2#8, 0#8)
  | .refused r => (3#8, reasonCode r)

/-- The bytes of an answer frame whose body is the bytes given (11 TABLE 3). -/
def Answer.frame (a : Answer) (body : List Byte) : List Byte :=
  let codes := verdictCodes a.result
  Config.houseStart ::
    closeFrame ([codes.1, codes.2, a.sequence] ++ halfBytes (BitVec.ofNat 16 body.length) ++ body)

end Sys2Proof.Machine
end

