-- ==== Sys2Proof/Machine/MachineFrames.lean ====
section
/-! DEFINITION. The machine link (section 11.3): poll frames and their orders, and the answers of the modules with their
events. -/

namespace Sys2Proof.Machine

open Sys2Proof

/-! ### Poll frames (11 TABLES 5 and 7) -/

/-- The code of an order (11 TABLE 7, byte 0, bits 0 to 3). -/
def orderCode (o : OrderKind) : BitVec 4 :=
  match o with
  | .powerOn => 1#4
  | .powerOff => 2#4
  | .cycle _ _ => 3#4
  | .reRead => 4#4
  | .resetMachine => 5#4

/-- The cycle kind field of an order (11 TABLE 7, byte 0, bits 4 and 5). -/
def cycleField (o : OrderKind) : BitVec 2 :=
  match o with
  | .cycle .respot _ => 1#2
  | .cycle .sweep _ => 2#2
  | _ => 0#2

/-- The value of an order: the commanded set of a CYCLE, and 0 for the others (11 TABLE 7, bytes 1 and 2). -/
def orderValue (o : OrderKind) : BitVec 16 :=
  match o with
  | .cycle _ pins => pins.setWidth 16
  | _ => 0#16

/-- The three bytes of an order (11 TABLE 7). -/
def MachineOrder.bytes (o : MachineOrder) : List Byte :=
  (BitVec.ofBool o.even ++ 0#1 ++ cycleField o.kind ++ orderCode o.kind) :: halfBytes (orderValue o.kind)

/-- The control byte of a poll frame: bit 0 the poll sequence, bit 1 the presence request (11 TABLE 5). -/
def controlByte (sequence presenceRequest : Bool) : Byte :=
  0#6 ++ BitVec.ofBool presenceRequest ++ BitVec.ofBool sequence

/-- The poll frame for module `p` (R178): every order of its buffer, and to an absent module the presence request. -/
def pollFrame (p : Nat) (m : ModuleSlot) : List Byte :=
  Config.machineStart ::
    closeFrame ([BitVec.ofNat 8 p, controlByte m.sequence (!m.present), BitVec.ofNat 8 m.orders.length] ++
      m.orders.flatMap MachineOrder.bytes)

/-- The module after `p` in turn (R178). -/
def nextModule (p : Nat) : Nat := if p ≥ Config.pairs then 1 else p + 1

/-- The Machine Link Port polls the next module in turn (R178). It waits for the answer before it sends the next poll. -/
def House.poll (h : House) : House :=
  if h.machine.pollOut.isSome then h
  else
    let p := h.machine.turn
    let m := h.slot p
    let out : PollOut := { pair := p, sequence := m.sequence, carried := m.orders.length }
    { h with machine := { h.machine with turn := nextModule p, pollOut := some out, lastFrame := pollFrame p m } }

/-- POLL (R178). -/
def execPoll (s : State) : Result := event House.poll s

/-! ### No answer (R178) -/

/-- No answer to a poll of module `p` (R178): the count of a present module rises, and at 3 it is declared absent. -/
def House.noAnswerFrom (h : House) (p : Nat) : House :=
  let m := h.slot p
  if !m.present then h
  else if m.unanswered + 1 < Config.absentAfter then h.setSlot p { m with unanswered := m.unanswered + 1 }
  else h.declareAbsent p

/-- The poll owed an answer is no longer owed one. -/
def House.pollEnds (h : House) : House := { h with machine := { h.machine with pollOut := none } }

/-- No answer is taken to the poll that is owed one (R178). -/
def House.noAnswer (h : House) : House :=
  match h.machine.pollOut with
  | none => h
  | some out => h.pollEnds.noAnswerFrom out.pair

/-- POLL_NO_ANSWER (R178). -/
def execPollNoAnswer (s : State) : Result := event House.noAnswer s

/-! ### Events (11 TABLE 7) -/

/-- An event of a module's answer, without the pair that sends it. -/
inductive ModuleEvent where
  | present (capabilities : Capabilities)
  | ready (even : Bool)
  | ballSeen (even : Bool) (speed : Option Half)
  | foul (even : Bool)
  | deckRead (even : Bool) (reading : PinSet)
  | cycleDone (even : Bool) (verification : Option PinSet)
  | fault (even : Bool) (code : Half)
  | ballBack
  | returnFault
deriving DecidableEq, Repr

/-- The pin set of a two-byte value, whose bits 10 to 15 are not read (11.6). -/
def pinsOf (v : Half) : PinSet := v.setWidth 10

/-- The capabilities of a two-byte value (11 TABLE 7). -/
def capabilitiesOf (v : Half) : Capabilities :=
  { camera := v.getLsbD 0, foulBeam := v.getLsbD 1, speedSensor := v.getLsbD 2 }

/-- The event of three bytes (11 TABLE 7), or none where its kind code is not one of the table (R179). -/
def eventOf (b0 b1 b2 : Byte) : Option ModuleEvent :=
  let even := b0.getLsbD 7
  let valued := b0.getLsbD 6
  let value := halfOf b1 b2
  match (b0.extractLsb' 0 4).toNat with
  | 1 => some (.present (capabilitiesOf value))
  | 2 => some (.ready even)
  | 3 => some (.ballSeen even (if valued then some value else none))
  | 4 => some (.foul even)
  | 5 => some (.deckRead even (pinsOf value))
  | 6 => some (.cycleDone even (if valued then some (pinsOf value) else none))
  | 7 => some (.fault even value)
  | 8 => some .ballBack
  | 9 => some .returnFault
  | _ => none

/-- The events of an answer's bytes, three bytes each, in order; `none` stands for a malformed one. -/
def eventsOf : List Byte → List (Option ModuleEvent)
  | b0 :: b1 :: b2 :: rest => eventOf b0 b1 b2 :: eventsOf rest
  | _ => []

/-- The lane of a pair that an event names (11 TABLE 7, byte 0, bit 7). -/
def laneOf (p : Nat) (even : Bool) : Nat := if even then evenLane p else oddLane p

/-- An event of module `p` delivered to its owning blocks (R179). -/
def House.deliver (h : House) (p : Nat) (e : ModuleEvent) : House :=
  match e with
  | .present c => h.takePresent p c
  | .ready even => h.takeReady (laneOf p even)
  | .ballSeen even speed => h.takeBallSeen (laneOf p even) speed
  | .foul even => h.takeFoul (laneOf p even)
  | .deckRead even reading => h.takeDeckRead (laneOf p even) reading
  | .cycleDone even verification => h.takeCycleDone (laneOf p even) verification
  | .fault even code => h.takeFault (laneOf p even) code
  | .ballBack => h.countBack p
  | .returnFault => h.raiseJam p .fault

/-- The events of an answer delivered one after another; a malformed one is discarded (R179). -/
def House.deliverAll (h : House) (p : Nat) (events : List (Option ModuleEvent)) : House :=
  events.foldl (fun h e => match e with
    | some e => h.deliver p e
    | none => h) h

/-- The first event of an answer is PRESENT. DESIGN CHOICE (log entry 39): a malformed event before PRESENT counts as the
first. -/
def beginsWithPresent (events : List (Option ModuleEvent)) : Bool :=
  match events with
  | some (.present _) :: _ => true
  | _ => false

/-- The events of an answer taken (R179): those of an absent module are discarded unless PRESENT comes first. -/
def House.takeEvents (h : House) (p : Nat) (events : List (Option ModuleEvent)) : House :=
  if (h.slot p).present || beginsWithPresent events then h.deliverAll p events else h

/-! ### Answers (R178; 11 TABLE 6) -/

/-- The bytes of the events of an answer to a poll, or none where the bytes received count as no answer (R178): an answer has
the start byte, the polled module's address, the poll's sequence, a count of 0 to 8 with that many events, and a good
check. -/
def answerEvents (out : PollOut) (frame : List Byte) : Option (List Byte) :=
  match frame with
  | start :: address :: control :: count :: rest =>
    if start = Config.machineStart ∧ address.toNat = out.pair ∧ control.getLsbD 0 = out.sequence ∧
        count.toNat ≤ Config.eventRoom ∧ rest.length = 3 * count.toNat + 2 ∧ checks (frame.drop 1) = true then
      some (rest.take (3 * count.toNat))
    else none
  | _ => none

/-- Steps 1 to 3 of an answer taken (R178): the orders carried leave the buffer, the sequence is inverted and the count is
0. -/
def ModuleSlot.answered (m : ModuleSlot) (carried : Nat) : ModuleSlot :=
  { m with orders := m.orders.drop carried, sequence := !m.sequence, unanswered := 0 }

/-- An answer to the poll `out` is taken, with the events its bytes hold (R178). -/
def House.answerTaken (h : House) (out : PollOut) (bytes : List Byte) : House :=
  (h.pollEnds.setSlot out.pair ((h.slot out.pair).answered out.carried)).takeEvents out.pair (eventsOf bytes)

/-- Bytes received on the machine link as the answer to the poll that is owed one (R178). -/
def House.pollAnswer (h : House) (frame : List Byte) : House :=
  match h.machine.pollOut with
  | none => h
  | some out =>
    match answerEvents out frame with
    | none => h.noAnswer
    | some bytes => h.answerTaken out bytes

/-- POLL_ANSWER (R178, R179). -/
def execPollAnswer (frame : List Byte) (s : State) : Result := event (fun h => h.pollAnswer frame) s

end Sys2Proof.Machine
end

