-- ==== Sys2Proof/Machine/Idle.lean ====
section
/-! DEFINITION. What the part does when no command waits (log entry 1): a deadline that has been reached acts, and otherwise
a tenth of a second passes on the timebase (R27, R180). -/

namespace Sys2Proof.Machine

open Sys2Proof

/-- The clock a tenth of a second later. -/
def Clock.tickTenth (c : Clock) : Clock := { c with timebase := c.timebase + 1, phase := c.phase + 1 }

/-- A tenth boundary: one that completes a second is a second boundary (R180). While the part does not run the clock's
seconds go on, and the timebase stands still. DESIGN CHOICE (log entry 12): the tenths of that time count toward the second in
progress. -/
def House.tenth (h : House) : House :=
  if 9 ≤ h.clock.phase then h.secondBoundary
  else if h.runs then { h with clock := h.clock.tickTenth }
  else { h with clock := { h.clock with phase := h.clock.phase + 1 } }

/-- The deadline of lane `n` that acts first, where one has been reached: reading, cycle, foul window, warm-up. -/
def House.laneDue (h : House) (n : Nat) : Option (House → House) :=
  let l := h.lane n
  if h.reached (l.delivery.bind (·.deadline)) then some fun h => h.readingExpires n
  else if h.reached (l.cycle.map (·.deadline)) then some fun h => h.cycleExpires n
  else if h.reached l.foulMark then some fun h => h.foulExpires n
  else if decide (l.mode = .warming) && h.reached l.warmUp then some fun h => h.warmUpExpires n
  else none

/-- The return deadline of pair `p`, where it has been reached in NORMAL. -/
def House.pairDue (h : House) (p : Nat) : Option (House → House) :=
  if (h.ret p).jam.isNone && h.reached (h.ret p).deadline then some fun h => h.returnDue p else none

/-- The deadline that acts first, lanes before pairs and in ascending number (log entry 1). -/
def House.due (h : House) : Option (House → House) :=
  match (numbers Config.lanes).findSome? h.laneDue with
  | some act => some act
  | none => (numbers Config.pairs).findSome? h.pairDue

/-- The part while no command waits. -/
def idleStep (s : State) : Result :=
  match if s.house.runs then s.house.due else none with
  | some act => .next (s.withHouse (act s.house).settle)
  | none => .next (s.withHouse s.house.tenth)

end Sys2Proof.Machine
end

