-- ==== Sys2Proof/Machine/Dispatch.lean ====
section
/-! DEFINITION. The effect of each command on everything but the queue: one arm for each row of spec/opcode_table.json. -/

namespace Sys2Proof.Machine

open Sys2Proof

/-- The effect of a command, by the rule its row of the table names. -/
def exec (i : Instr) (s : State) : Host.Outcome State Fault Refusal :=
  match i with
  | .laneStatus header lane => Sys2Proof.Machine.execLaneStatus header lane s
  | .setLaneOptions header lane edit => Sys2Proof.Machine.execSetLaneOptions header lane edit s
  | .deskHold header lane => Sys2Proof.Machine.execDeskHold header lane s
  | .deskRelease header lane cause => Sys2Proof.Machine.execDeskRelease header lane cause s
  | .wake header lane => Sys2Proof.Machine.execWake header lane s
  | .laneOut header lane => Sys2Proof.Machine.execLaneOut header lane s
  | .laneIn header lane => Sys2Proof.Machine.execLaneIn header lane s
  | .laneReset header lane => Sys2Proof.Machine.execLaneReset header lane s
  | .move header source destination => Sys2Proof.Machine.execMove header source destination s
  | .manualEntry header lane standingAfter foulMark => Sys2Proof.Machine.execManualEntry header lane standingAfter foulMark s
  | .setDiscrepancyMask header lane bits => Sys2Proof.Machine.execSetDiscrepancyMask header lane bits s
  | .resolve header lane action => Sys2Proof.Machine.execResolve header lane action s
  | .clearFlags header lane kinds => Sys2Proof.Machine.execClearFlags header lane kinds s
  | .readFaultContext header lane => Sys2Proof.Machine.execReadFaultContext header lane s
  | .formSquad header lane bowlers autoNext rule => Sys2Proof.Machine.execFormSquad header lane bowlers autoNext rule s
  | .addBowler header squad entry => Sys2Proof.Machine.execAddBowler header squad entry s
  | .setOrder header squad order => Sys2Proof.Machine.execSetOrder header squad order s
  | .markAway header bowler => Sys2Proof.Machine.execMarkAway header bowler s
  | .markBack header bowler => Sys2Proof.Machine.execMarkBack header bowler s
  | .removeBowler header bowler => Sys2Proof.Machine.execRemoveBowler header bowler s
  | .setBowler header bowler nameTag average => Sys2Proof.Machine.execSetBowler header bowler nameTag average s
  | .setSquad header squad autoNext rule => Sys2Proof.Machine.execSetSquad header squad autoNext rule s
  | .endSquad header squad => Sys2Proof.Machine.execEndSquad header squad s
  | .readSquad header squad => Sys2Proof.Machine.execReadSquad header squad s
  | .readBowler header bowler => Sys2Proof.Machine.execReadBowler header bowler s
  | .startGame header lane => Sys2Proof.Machine.execStartGame header lane s
  | .pairPlay header pair autoNext => Sys2Proof.Machine.execPairPlay header pair autoNext s
  | .endPairPlay header pair => Sys2Proof.Machine.execEndPairPlay header pair s
  | .correctBall header bowler frame ball standingAfter foulMark => Sys2Proof.Machine.execCorrectBall header bowler frame ball standingAfter foulMark s
  | .returnClear header pair => Sys2Proof.Machine.execReturnClear header pair s
  | .setReturnTimeout header pair seconds => Sys2Proof.Machine.execSetReturnTimeout header pair seconds s
  | .returnStatus header pair => Sys2Proof.Machine.execReturnStatus header pair s
  | .assist header lane => Sys2Proof.Machine.execAssist header lane s
  | .deskCall header lane => Sys2Proof.Machine.execDeskCall header lane s
  | .setClassMap header classes => Sys2Proof.Machine.execSetClassMap header classes s
  | .setDispatch header settings => Sys2Proof.Machine.execSetDispatch header settings s
  | .nextCall header station => Sys2Proof.Machine.execNextCall header station s
  | .returnCall header number => Sys2Proof.Machine.execReturnCall header number s
  | .clearCall header target => Sys2Proof.Machine.execClearCall header target s
  | .callList header => Sys2Proof.Machine.execCallList header s
  | .setPlan header plan kind bands increment rounding minimum => Sys2Proof.Machine.execSetPlan header plan kind bands increment rounding minimum s
  | .clearPlan header plan => Sys2Proof.Machine.execClearPlan header plan s
  | .readPlan header plan => Sys2Proof.Machine.execReadPlan header plan s
  | .openTab header plan lane autoWake allowance lead => Sys2Proof.Machine.execOpenTab header plan lane autoWake allowance lead s
  | .attach header tab lane autoWake => Sys2Proof.Machine.execAttach header tab lane autoWake s
  | .detach header lane => Sys2Proof.Machine.execDetach header lane s
  | .close header tab => Sys2Proof.Machine.execClose header tab s
  | .settle header tab => Sys2Proof.Machine.execSettle header tab s
  | .addItem header tab code quantity price => Sys2Proof.Machine.execAddItem header tab code quantity price s
  | .removeItem header tab code => Sys2Proof.Machine.execRemoveItem header tab code s
  | .adjustAllowance header tab allowance lead => Sys2Proof.Machine.execAdjustAllowance header tab allowance lead s
  | .ackWarning header tab => Sys2Proof.Machine.execAckWarning header tab s
  | .readTab header tab => Sys2Proof.Machine.execReadTab header tab s
  | .bill header tab => Sys2Proof.Machine.execBill header tab s
  | .attentionSummary header => Sys2Proof.Machine.execAttentionSummary header s
  | .setClock header day hour minute second => Sys2Proof.Machine.execSetClock header day hour minute second s
  | .readClock header => Sys2Proof.Machine.execReadClock header s
  | .readRestart header => Sys2Proof.Machine.execReadRestart header s
  | .restart header => Sys2Proof.Machine.execRestart header s
  | .restartStart => Sys2Proof.Machine.execRestartStart s
  | .headerRefused sequence => Sys2Proof.Machine.execHeaderRefused sequence s
  | .frameDropped => Sys2Proof.Machine.execFrameDropped s
  | .frameGapTimeout => Sys2Proof.Machine.execFrameGapTimeout s
  | .linkClear => Sys2Proof.Machine.execLinkClear s
  | .poll => Sys2Proof.Machine.execPoll s
  | .pollAnswer frame => Sys2Proof.Machine.execPollAnswer frame s
  | .pollNoAnswer => Sys2Proof.Machine.execPollNoAnswer s
  | .present pair capabilities => Sys2Proof.Machine.execPresent pair capabilities s
  | .ready lane => Sys2Proof.Machine.execReady lane s
  | .ballSeen lane speed => Sys2Proof.Machine.execBallSeen lane speed s
  | .foul lane => Sys2Proof.Machine.execFoul lane s
  | .deckRead lane reading => Sys2Proof.Machine.execDeckRead lane reading s
  | .cycleDone lane verification => Sys2Proof.Machine.execCycleDone lane verification s
  | .fault lane code => Sys2Proof.Machine.execFault lane code s
  | .ballBack pair => Sys2Proof.Machine.execBallBack pair s
  | .returnFault pair => Sys2Proof.Machine.execReturnFault pair s
  | .readingDeadline lane => Sys2Proof.Machine.execReadingDeadline lane s
  | .cycleDeadline lane => Sys2Proof.Machine.execCycleDeadline lane s
  | .foulWindowExpiry lane => Sys2Proof.Machine.execFoulWindowExpiry lane s
  | .warmUpDeadline lane => Sys2Proof.Machine.execWarmUpDeadline lane s
  | .returnDeadline pair => Sys2Proof.Machine.execReturnDeadline pair s
  | .secondBoundary => Sys2Proof.Machine.execSecondBoundary s
  | .mainPowerLost => Sys2Proof.Machine.execMainPowerLost s
  | .sbokLow staysLow => Sys2Proof.Machine.execSbokLow staysLow s
  | .powerReturn => Sys2Proof.Machine.execPowerReturn s
  | .resetAsserted => Sys2Proof.Machine.execResetAsserted s
  | .resetReleased => Sys2Proof.Machine.execResetReleased s
  | .receiveByte value => Sys2Proof.Machine.execReceiveByte value s

end Sys2Proof.Machine
end

