-- ==== Sys2Proof/Safety.lean ====
section
/-! DEFINITION. What counts as a safe state and a safe run, in the terms the claims use: the laws that the manual says hold
of the records at all times, each as a condition on a record or on the house. -/

namespace Sys2Proof.Machine

open Sys2Proof

/-! ### Lanes -/

/-- The hold-cause set fits the mode: empty on a LIVE lane, not empty on a HELD one, and empty in OUT, DARK and CLOSING
(R4). -/
def LaneRecord.causesFit (l : LaneRecord) : Bool :=
  match l.mode with
  | .live | .out | .dark | .closing => l.causes.isNone
  | .held => !l.causes.isNone
  | .warming => true

/-- The deck state follows the work in flight (R27, 02 TABLE 1): DELIVERY exactly with a delivery, CYCLING exactly with a
cycle; and a lane that is not playing and not closing has deck EMPTY. -/
def LaneRecord.deckFits (l : LaneRecord) : Bool :=
  decide (l.deck = .delivery) == l.delivery.isSome && decide (l.deck = .cycling) == l.cycle.isSome &&
    (l.playing || decide (l.mode = .closing) || decide (l.deck = .empty))

/-- Flags stand only on a playing lane, each with its raise record, and a lane has a fault context exactly while its
attention is on (R17, R109, R118). -/
def LaneRecord.contextFits (l : LaneRecord) : Bool :=
  (l.attention == l.context.isSome) && (l.playing || discrepancies.all fun k => !l.flag k) &&
    discrepancies.all fun k => l.flag k == (l.raised k).isSome

/-- ATTENTION is held exactly while attention is on (R117). -/
def LaneRecord.attentionFits (l : LaneRecord) : Bool := l.causes.attention == l.attention

/-! ### Calls, returns, orders -/

/-- The queue holds at most 32 calls, and no station more than 2 (R138, R139). -/
abbrev CallQueue.fits (q : CallQueue) : Prop :=
  q.queue.length ≤ Config.queueRoom ∧ ∀ k ∈ numbers Config.stations, (numGet q.stations [] k).length ≤ Config.stationRoom

/-- A pair's outstanding list holds at most 8 entries (R126). -/
def ReturnRecord.fits (r : ReturnRecord) : Bool := decide (r.outstanding.length ≤ Config.outstandingRoom)

/-- A module's buffer holds at most 8 orders (11 TABLE 4), and no order has found it full since the last step ended. -/
def ModuleSlot.fits (m : ModuleSlot) : Bool := decide (m.orders.length ≤ Config.orderRoom) && !m.overflowed

/-! ### Tabs -/

/-- The games started of a tab are at most 9,999 and never exceed its game allowance (R154). -/
def TabRecord.gamesFit (r : TabRecord) : Bool :=
  decide (r.gamesStarted ≤ Config.gamesLimit) &&
    match r.allowance with
    | .games n => decide (r.gamesStarted ≤ n)
    | _ => true

/-! ### The house -/

/-- Every module slot fits. -/
abbrev House.slotsFit (h : House) : Prop := ∀ p ∈ numbers Config.pairs, (h.slot p).fits = true

/-- The attention summary and the ATTN line are as the records give them (R177). -/
abbrev House.summaryFollows (h : House) : Prop := h.port.summary = h.formSummary ∧ h.port.attn = !h.formSummary.isNone

/-- The house between two steps: no buffer has been found full, and the attention summary is as the records give it. -/
abbrev House.quiet (h : House) : Prop := h.slotsFit ∧ h.summaryFollows

/-- Every lane's hold-cause set fits its mode (R4). -/
abbrev House.causesFit (h : House) : Prop := ∀ n ∈ numbers Config.lanes, (h.lane n).causesFit = true

/-- Every lane's deck fits its work in flight (R27), its flags and context its mode (R17, R118), and its ATTENTION cause its
flags (R117). -/
abbrev House.decksFit (h : House) : Prop :=
  ∀ n ∈ numbers Config.lanes,
    (h.lane n).deckFits = true ∧ (h.lane n).contextFits = true ∧ (h.lane n).attentionFits = true

/-- A lane in WARMING, LIVE or HELD holds LINK exactly while the module of its pair is absent (R9, R26, R47). -/
def House.linkFits (h : House) (n : Nat) : Bool :=
  !(h.lane n).keepsCauses || ((h.lane n).causes.link == !h.modulePresent n)

/-- LINK follows the presence of every module (R9). -/
abbrev House.linksFit (h : House) : Prop := ∀ n ∈ numbers Config.lanes, h.linkFits n = true

/-- The Call Queue keeps its law (R139). -/
abbrev House.callsFit (h : House) : Prop := h.calls.fits

/-- Every outstanding list keeps its bound (R126). -/
abbrev House.returnsFit (h : House) : Prop := ∀ p ∈ numbers Config.pairs, (h.ret p).fits = true

/-- A tab record, free or in use, keeps the law of games (R154). -/
def tabFits (t : Option TabRecord) : Bool :=
  match t with
  | some r => r.gamesFit
  | none => true

/-- Every tab keeps the law of games (R154). -/
abbrev House.gamesFit (h : House) : Prop := ∀ t ∈ numbers Config.tabs, tabFits (h.tab t) = true

/-- A step is safe when it answers a next state. -/
def completes (o : Result) : Prop := ∃ t, o = .next t

/-! ### What one command answers -/

/-- The part takes frames, and the origin is one that passes the header checks (R176). -/
abbrev State.takes (s : State) (hd : Header) : Prop := s.house.takesFrames = true ∧ originInRange hd.origin = true

/-- The part takes frames, and the origin is the desk. -/
abbrev State.desk (s : State) (hd : Header) : Prop := s.house.takesFrames = true ∧ hd.origin = .desk

/-- The part takes frames, and the origin may edit the squads of lane `n`: the desk, or the console of its pair while console
edits is on (section 4.2). -/
abbrev State.edits (s : State) (hd : Header) (n : Nat) : Prop :=
  s.takes hd ∧
    (hd.origin = .desk ∨ hd.origin = .console (pairOf n) ∧ (s.house.lane n).options.consoleEdits = true)

/-- The origin may clear a call: the desk any, a station a WAITING one or one it holds (R147). -/
abbrev CallRecord.clearableBy (c : CallRecord) (o : Origin) : Prop :=
  o = .desk ∨ isConsole o = false ∧ (c.station = none ∨ c.station.map Origin.station = some o)

/-- The command answers a next state, with house `h` and the same commands waiting. -/
abbrev Becomes (s : State) (c : Instr) (h : House) : Prop := exec c s = .next { house := h, pending := s.pending }

/-- The request answers a next state: its records become those of `h`, its answer is given, and nothing else happens. -/
abbrev Answers (s : State) (c : Instr) (hd : Header) (h : House) (v : Verdict) (b : Body) : Prop :=
  Becomes s c (h.answer { sequence := hd.sequence, result := v, body := b })

/-- The request answers a next state: its records become those of `h`, its answer is given, and the step ends as every step
does, with the modules that stopped taking orders and with the attention summary (R177, R178). -/
abbrev AnswersSettled (s : State) (c : Instr) (hd : Header) (h : House) (v : Verdict) (b : Body) : Prop :=
  Becomes s c (h.answer { sequence := hd.sequence, result := v, body := b }).settle

/-- The request is refused with a reason: its answer is given, and nothing else changes. -/
abbrev Refuses (s : State) (c : Instr) (hd : Header) (reason : Reason) : Prop :=
  Answers s c hd s.house (.refused reason) .empty

/-- The module of lane `n`'s pair is present, and its buffer has room for an order. -/
abbrev House.roomFor (h : House) (n : Nat) : Prop :=
  h.modulePresent n = true ∧ (h.slot (pairOf n)).orders.length < Config.orderRoom

/-- The command may bring a start of the part (R181), or a request that a frame holds (R176). -/
def mayStart (c : Instr) : Bool :=
  match c with
  | .receiveByte _ | .powerReturn | .resetReleased => true
  | _ => false

/-- The event is PRESENT. -/
def ModuleEvent.isPresent (e : ModuleEvent) : Bool :=
  match e with
  | .present _ => true
  | _ => false

/-- The command of an event of the module of pair `p`, by the table of R179: the lane or the pair whose blocks take it. -/
def ModuleEvent.command (e : ModuleEvent) (p : Nat) : Instr :=
  let named (even : Bool) : Nat := if even then 2 * p else 2 * p - 1
  match e with
  | .present c => .present p c
  | .ready even => .ready (named even)
  | .ballSeen even speed => .ballSeen (named even) speed
  | .foul even => .foul (named even)
  | .deckRead even reading => .deckRead (named even) reading
  | .cycleDone even verification => .cycleDone (named even) verification
  | .fault even code => .fault (named even) code
  | .ballBack => .ballBack p
  | .returnFault => .returnFault p

/-- The slot of a module with an order appended to its buffer for lane `n`. -/
def ModuleSlot.ordered (m : ModuleSlot) (n : Nat) (o : OrderKind) : ModuleSlot :=
  { m with orders := m.orders ++ [{ even := decide (n % 2 = 0), kind := o }] }

/-! ### A squad's game, written from the rules for the statements -/

/-- A bowler record at its squad's game end (R66, R67): an entry of the running total of frame 10, or of the highest running
total for a game it left, joins its game totals, of which the newest eight are kept. -/
def BowlerRecord.totalled (b : BowlerRecord) : BowlerRecord :=
  let next (total : Nat) (incomplete : Bool) : BowlerRecord :=
    { b with totals := (if 8 ≤ b.totals.length then b.totals.drop 1 else b.totals) ++ [⟨total, incomplete⟩] }
  match b.inGame with
  | .yes => next (((b.sheet.frame 10).running).getD 0) false
  | .left => next (b.sheet.highestRunning.getD 0) true
  | .no => b

/-- A bowler record at a game start (R64): a present bowler begins an empty game, UP where the rotation makes it so. -/
def BowlerRecord.begun (b : BowlerRecord) (up : Bool) : BowlerRecord :=
  if b.state = .absent then { b with inGame := .no }
  else { b with
    sheet := .blank, gameNumber := min (b.gameNumber + 1) 255, inGame := .yes, state := if up then .up else .waiting }

/-- A charge for `k` bowlers is refused (R169), or not asked for on a run-out tab (R86). -/
def TabRecord.startRefused (r : TabRecord) (k : Nat) : Bool :=
  r.runOut || decide (9999 < r.gamesStarted + k) ||
    match r.allowance with
    | .games n => decide (n < r.gamesStarted + k)
    | _ => false

/-- The tab after an accepted charge for `k` bowlers, at least 1 (R169): games started and last start, the charge of a GAME
plan at the price in force, held at 9,999,999, and the warning of GAMES. -/
def House.startCharged (h : House) (r : TabRecord) (k : Nat) : TabRecord :=
  let cost := match h.plan r.plan with
    | some p => if p.kind = .game then k * priceAt p.bands (h.clock.time / 60) else 0
    | none => 0
  { r with
    gamesStarted := r.gamesStarted + k, lastStart := k,
    gameCharges := { amount := min (r.gameCharges.amount + cost) 9999999,
                     held := r.gameCharges.held || decide (9999999 < r.gameCharges.amount + cost) },
    warning := match r.allowance with
      | .games n => if n - (r.gamesStarted + k) < k ∧ r.warning = .none then .set else r.warning
      | _ => r.warning }

/-- A tab's record, its slots apart. -/
def House.tabOf (h : House) (a : Nat) : Option TabRecord := (h.tab a).map fun r => { r with slots := [] }

/-! ### Games recorded ball by ball (R63) -/

/-- The game of a sheet has ended: frame 10 has its kind (R58). -/
def Sheet.over (sh : Sheet) : Bool := (sh.frame 10).kind.isSome

/-- Balls recorded one by one from an empty game, as they were handed; none is recorded once the game has ended. -/
def recordGame (balls : List BallRecord) : Sheet :=
  balls.foldl (fun sh b => if sh.over then sh else (sh.record b.before b.after b.foul b.speed).1) .blank

/-! ### The events of an answer frame, as a module lays them out (11 TABLES 6 and 7) -/

/-- Byte 0 of an event: bit 7 the even lane, bit 6 that a value is carried, bits 0 to 3 the event code. -/
def eventByte (even valued : Bool) (code : BitVec 4) : Byte := BitVec.ofBool even ++ BitVec.ofBool valued ++ 0#2 ++ code

/-- A pin set as a two-byte value. -/
def pinBytes (p : PinSet) : List Byte := halfBytes (p.setWidth 16)

/-- The capabilities as a two-byte value: bit 0 CAMERA, bit 1 FOUL_BEAM, bit 2 SPEED_SENSOR. -/
def capabilityBytes (c : Capabilities) : List Byte :=
  halfBytes (0#13 ++ BitVec.ofBool c.speedSensor ++ BitVec.ofBool c.foulBeam ++ BitVec.ofBool c.camera)

/-- The three bytes of an event (11 TABLE 7). -/
def ModuleEvent.bytes (e : ModuleEvent) : List Byte :=
  match e with
  | .present c => eventByte false false 1#4 :: capabilityBytes c
  | .ready even => eventByte even false 2#4 :: halfBytes 0#16
  | .ballSeen even speed => eventByte even speed.isSome 3#4 :: halfBytes (speed.getD 0#16)
  | .foul even => eventByte even false 4#4 :: halfBytes 0#16
  | .deckRead even reading => eventByte even false 5#4 :: pinBytes reading
  | .cycleDone even verification => eventByte even verification.isSome 6#4 :: pinBytes (verification.getD noPins)
  | .fault even code => eventByte even false 7#4 :: halfBytes code
  | .ballBack => eventByte false false 8#4 :: halfBytes 0#16
  | .returnFault => eventByte false false 9#4 :: halfBytes 0#16

/-- The answer frame of a module to a poll, holding an event count and the bytes of its events (11 TABLE 6). -/
def rawAnswer (out : PollOut) (count : Nat) (events : List Byte) : List Byte :=
  Config.machineStart ::
    closeFrame ([BitVec.ofNat 8 out.pair, controlByte out.sequence false, BitVec.ofNat 8 count] ++ events)

/-- The answer frame of a module to a poll, holding events (11 TABLE 6). -/
def answerFrame (out : PollOut) (events : List ModuleEvent) : List Byte :=
  rawAnswer out events.length (events.flatMap ModuleEvent.bytes)

/-- A request frame of the house link from its origin kind byte to its last check byte (11 TABLE 3). -/
def requestFrame (kind number code sequence : Byte) (body : List Byte) : List Byte :=
  closeFrame ([kind, number, code, sequence, BitVec.ofNat 8 body.length] ++ body)

end Sys2Proof.Machine
end

