-- ==== Sys2Proof/Certificates/Slice0/Obligations.lean ====
section
/-! DEFINITION. The statements for the provers, from the numbered rules of the manual. A request is stated by the answer it
gives and by the whole house after it: a record that a conclusion does not name is unchanged, because the house after is
given as the house before with the named records written. `Answers` and `Becomes` say that `exec` answers that next state.
Where the end of the step may act (a buffer found full, the attention summary), the conclusion says `settle`. The list of
answers given is the model's trace of the transmit line (log entry 10). -/

open Sys2Proof Sys2Proof.Machine

/-! ### The part as a whole -/

/-- A step takes the command at the front of the queue and runs it with the queue's rest. -/
def Obligations.StepTakesFrontCommand : Prop :=
  ∀ (h : House) (c : Instr) (rest : List Instr), step ⟨h, c :: rest⟩ = exec c ⟨h, rest⟩

/-- Every command completes, whatever the state, and leaves the commands that wait as they are. -/
def Obligations.EveryCommandCompletesAndKeepsTheQueue : Prop :=
  ∀ (c : Instr) (s : State), ∃ t, exec c s = .next t ∧ t.pending = s.pending

/-- While main power is absent or RESET is held, every request and every event is without effect; so is every request while
the warm start that follows the answer to RESTART is still to be made (R181); and the events of an absent module are
discarded (R179). What the manual leaves to inference here is log entries 7, 11 and 12. -/
def Obligations.StoppedPartAndAbsentModulesTakeNothing : Prop :=
  (∀ (s : State) (c : Instr), s.house.runs = false →
    c ∉ [.secondBoundary, .mainPowerLost, .sbokLow true, .sbokLow false, .powerReturn, .resetAsserted, .resetReleased] →
    exec c s = .next s) ∧
  (∀ (s : State) (c : Instr), (asRequest c).isSome = true → s.house.takesFrames = false → exec c s = .next s) ∧
  (∀ (s : State) (n p : Nat) (pins : PinSet) (value : Option Half) (verification : Option PinSet) (code : Half),
    s.house.quiet → s.house.modulePresent n = false → (s.house.slot p).present = false →
    ∀ c ∈ [Instr.ready n, .ballSeen n value, .foul n, .deckRead n pins, .cycleDone n verification, .fault n code,
      .ballBack p, .returnFault p], exec c s = .next s)

/-- After a cold start every lane record holds the values of R25, every bowler record is free (R74), and so is every squad
and tab record; no plan is defined; the Call Queue holds no call, no unqueued kind and no station's call, the classes of 08
TABLE 1, the settings of R144 with every credit 0, and a last number of 0 (R151); every module slot is absent and empty, both
links start afresh, the attention summary is empty, and the clock is unset (R177, R180, R181). The start is that of a power
return with the mark cleared. -/
def Obligations.ColdStartFillsTheRecords : Prop :=
  ∀ s : State, s.house.memory.mainPower = false → s.house.memory.resetHeld = false → s.house.memory.valid = false →
    ∃ t, exec .powerReturn s = .next t ∧ t.pending = s.pending ∧
      (∀ n, t.house.lane n =
        { mode := .dark, causes := ⟨false, false, false, false, false, false⟩, deck := .empty, standing := noPins,
          delivery := none, cycle := none, foulMark := none, recoveryOwed := false, warmUp := none,
          flags := Vector.replicate 6 false, mask := Vector.replicate 6 true, context := none,
          raises := Vector.replicate 6 none, repeatOwed := false,
          options :=
            { consoleWake := false, pitCall := true, consoleEdits := false, consoleCorrections := false,
              manualScoring := false, readingTimeout := 60, cycleTimeout := 120, warmUpTimeout := 90 },
          tab := none, squad := none, capabilities := ⟨false, false, false⟩ }) ∧
      (∀ k, t.house.bowler k = none) ∧ (∀ q, t.house.squad q = none) ∧ (∀ a, t.house.tab a = none) ∧
      (∀ p, t.house.plan p = none) ∧ t.house.calls.queue = [] ∧ (∀ n, t.house.unqueued n = .none) ∧
      t.house.calls.stations = #v[[], [], [], []] ∧ t.house.calls.classMap = #v[3, 3, 2, 2, 2, 1, 1, 1, 0] ∧
      t.house.calls.dispatch = #v[.ratio 1, .ratio 2, .ratio 4, .strict] ∧ t.house.calls.credits = #v[0, 0, 0, 0] ∧
      t.house.calls.lastNumber = 0 ∧
      (∀ p, t.house.slot p =
        { present := false, unanswered := 0, sequence := false, orders := [], capabilities := ⟨false, false, false⟩,
          overflowed := false }) ∧
      t.house.machine.turn = 1 ∧ t.house.machine.pollOut = none ∧ t.house.port.framing = .hunt ∧
      t.house.port.summary = ⟨[], [], [], []⟩ ∧ t.house.port.attn = false ∧
      (∀ p, t.house.ret p = { outstanding := [], timeout := 40, deadline := none, jam := none }) ∧
      t.house.clock.isSet = false ∧ t.house.memory.cause = .cold ∧ t.house.memory.previous = none

/-- The supply, RESET and RESTART (R181, R182): each event writes the marks it names, a power return starts the part as the
validity mark decides, a release of RESET makes a warm start with cause RESET_LINE unless a start waited for it, and the
start of RESTART follows its answer. That SBOK may stay low or recover is log entry 9, what happens between the answer to
RESTART and its start log entry 11, and what a stopped clock does log entry 12. -/
def Obligations.StartsFollowTheSupplyAndReset : Prop :=
  ∀ s : State,
    let h := s.house
    let m := h.memory
    let powered : House := { h with memory := { m with mainPower := true } }
    let released : House := { h with memory := { m with resetHeld := false } }
    Becomes s .mainPowerLost { h with memory := { m with
      mainPower := false, startWaits := false, restartOwed := false, valid := m.valid && m.sbokGood } } ∧
    (∀ stays : Bool, Becomes s (.sbokLow stays) { h with memory := { m with
      sbokGood := !stays, valid := m.valid && m.mainPower } }) ∧
    Becomes s .resetAsserted { h with memory := { m with resetHeld := true } } ∧
    (m.mainPower = true → Becomes s .powerReturn h) ∧
    (m.mainPower = false → m.resetHeld = true →
      Becomes s .powerReturn { h with memory := { m with mainPower := true, startWaits := true } }) ∧
    (m.mainPower = false → m.resetHeld = false →
      (m.valid = true → Becomes s .powerReturn (powered.warmStart .supplyKept).settle) ∧
      (m.valid = false → Becomes s .powerReturn powered.coldStart.settle)) ∧
    (m.resetHeld = false → Becomes s .resetReleased h) ∧
    (m.resetHeld = true →
      (m.mainPower = false → Becomes s .resetReleased released) ∧
      (m.mainPower = true → m.startWaits = false → Becomes s .resetReleased (released.warmStart .resetLine).settle) ∧
      (m.mainPower = true → m.startWaits = true →
        (m.valid = true → Becomes s .resetReleased (released.warmStart .supplyKept).settle) ∧
        (m.valid = false → Becomes s .resetReleased released.coldStart.settle))) ∧
    (∀ hd, h.quiet → s.desk hd →
      Answers s (.restart hd) hd { h with memory := { m with restartOwed := true } } .done .empty) ∧
    (h.runs = true → m.restartOwed = true → Becomes s .restartStart (h.warmStart .request).settle) ∧
    (h.quiet → m.restartOwed = false → Becomes s .restartStart h) ∧
    (∀ cause, (h.warmStart cause).memory = { m with
      cause := cause, previous := some m.cause, valid := true, startWaits := false, restartOwed := false }) ∧
    h.coldStart.memory = { m with
      cause := .cold, previous := none, valid := true, startWaits := false, restartOwed := false }

/-- What a warm start does to the kept records (R26, R75, R97, R136, R151, R165, R174, R180, R181): the work in flight of
every lane is lost, the lanes that were WARMING, LIVE or HELD are HELD with RESTART and LINK and with CALL afresh, balls to
come back are forgotten, taken calls wait again, every module is absent, and every attached slot takes its condition. -/
def Obligations.WarmStartRestoresTheRecords : Prop :=
  ∀ (h : House) (cause : RestartCause),
    let t := h.warmStart cause
    (∀ n, isLane n = true →
      let l := h.lane n
      t.lane n = { l with
        delivery := none, cycle := none, foulMark := none, recoveryOwed := false, repeatOwed := false, deck := .empty,
        standing := noPins, context := l.context.map fun r => { r with holdsDelivery := false },
        mode := if l.keepsCauses then .held else l.mode,
        causes := if l.keepsCauses then { l.causes with restart := true, link := true, call := h.blocked n } else l.causes,
        warmUp := if l.keepsCauses then none else l.warmUp }) ∧
    t.bowlers = h.bowlers ∧ t.squads = h.squads ∧ t.plans = h.plans ∧ t.clock = h.clock ∧
    (∀ p, isPair p = true → t.ret p = { h.ret p with outstanding := [], deadline := none }) ∧
    t.calls = { h.calls with
      queue := h.calls.queue.map fun c => { c with station := none }, stations := #v[[], [], [], []],
      credits := #v[0, 0, 0, 0] } ∧
    (∀ p, isPair p = true → t.slot p =
      { present := false, unanswered := 0, sequence := false, orders := [], capabilities := (h.slot p).capabilities,
        overflowed := false }) ∧
    t.machine.turn = 1 ∧ t.machine.pollOut = none ∧ t.port.framing = .hunt ∧ t.port.answers = h.port.answers ∧
    (∀ a r, h.tab a = some r → t.tab a = some { r with
      slots := r.slots.map fun m => if isLane m.lane = true ∧ m.attached = true ∧ (h.lane m.lane).tab = some a then
        { m with condition := some (if (h.lane m.lane).keepsCauses then .crediting else .idle) }
      else m })

/-- The machine after reset meets every invariant that the steps keep. -/
def Obligations.ResetMeetsEveryInvariant : Prop :=
  State.reset.house.quiet ∧ State.reset.house.causesFit ∧ State.reset.house.decksFit ∧ State.reset.house.linksFit ∧
    State.reset.house.callsFit ∧ State.reset.house.returnsFit ∧ State.reset.house.gamesFit ∧ State.reset.pending = []

/-! ### What every step keeps -/

/-- Every step keeps the attention summary and the ATTN line as the records give them (R177), and the bounds of the order
buffers (8 orders, 11 TABLE 4), of the Call Queue (32 calls, and 2 held by a station, R139), of the outstanding lists (8
balls, R126), and of the games started of a tab (its game allowance and 9,999, R154, R169). That the summary is formed at
the end of each step is log entry 20, and that an overfull buffer declares its module absent there log entry 8. -/
def Obligations.SummaryAndBoundsAreKeptByEveryStep : Prop :=
  ∀ s t : State, step s = .next t →
    (s.house.summaryFollows → t.house.summaryFollows) ∧ (s.house.slotsFit → t.house.slotsFit) ∧
      (s.house.callsFit → t.house.callsFit) ∧ (s.house.returnsFit → t.house.returnsFit) ∧
      (s.house.gamesFit → t.house.gamesFit)

/-- A LIVE lane has an empty hold-cause set and a HELD lane one that is not empty, and in OUT, DARK and CLOSING the set is
empty: every step keeps this, on every lane (R4). -/
def Obligations.HoldCausesFitTheModeInEveryStep : Prop :=
  ∀ s t : State, s.house.causesFit → step s = .next t → t.house.causesFit

/-- Every step keeps, on every lane: the deck state follows the work in flight (R27); a context is held exactly while
attention is on (R118), with a raise record for each set flag and none for another (R109); and ATTENTION is held exactly
while some flag is set with its mask bit clear (R117). -/
def Obligations.DeckAndAttentionFitInEveryStep : Prop :=
  ∀ s t : State, s.house.decksFit → step s = .next t → t.house.decksFit

/-- A WARMING, LIVE or HELD lane holds LINK exactly while its pair's module is absent: every step keeps this, on every lane,
where the hold-cause sets fit the modes (R9, R26, R178). -/
def Obligations.LinkFollowsThePresenceOfTheModule : Prop :=
  ∀ s t : State, s.house.causesFit → s.house.linksFit → step s = .next t → t.house.linksFit

/-- What a command may change beside its own records: the rate plans (R152, R153), the class map and the dispatch settings
(R143, R144), the options, the mask and the capabilities of a lane (R3, R120, R48), the return timeouts (R133), and the
House Clock (R180) change only by the commands that write them, by a request that arrives in a frame, or by a start of the
part. -/
def Obligations.SettingsChangeOnlyByTheirCommands : Prop :=
  ∀ (s t : State) (c : Instr), exec c s = .next t → mayStart c = false →
    ((match c with | .setPlan .. | .clearPlan .. => false | _ => true) = true → t.house.plans = s.house.plans) ∧
    ((match c with | .setClassMap .. => false | _ => true) = true → t.house.calls.classMap = s.house.calls.classMap) ∧
    ((match c with | .setDispatch .. => false | _ => true) = true → t.house.calls.dispatch = s.house.calls.dispatch) ∧
    ((match c with | .setLaneOptions .. => false | _ => true) = true →
      ∀ n, (t.house.lane n).options = (s.house.lane n).options) ∧
    ((match c with | .setDiscrepancyMask .. => false | _ => true) = true →
      ∀ n, (t.house.lane n).mask = (s.house.lane n).mask) ∧
    ((match c with | .present .. | .pollAnswer _ => false | _ => true) = true →
      ∀ n, (t.house.lane n).capabilities = (s.house.lane n).capabilities) ∧
    ((match c with | .setReturnTimeout .. => false | _ => true) = true →
      ∀ p, (t.house.ret p).timeout = (s.house.ret p).timeout) ∧
    ((match c with | .setClock .. | .secondBoundary => false | _ => true) = true → t.house.clock = s.house.clock)

/-! ### The reads and the clock (R2, R69, R81, R124, R135, R150, R153, R164, R172, R177, R180, R182) -/

/-- LANE STATUS gives the lane's present record, is refused where R2 says, changes nothing, and a second one gives an equal
answer. -/
def Obligations.LaneStatusGivesThePresentRecord : Prop :=
  ∀ (s : State) (hd : Header) (n : Nat), s.house.quiet → s.takes hd →
    (isLane n = false → Refuses s (.laneStatus hd n) hd .noRecord) ∧
    (isLane n = true → (∃ p, hd.origin = .console p ∧ p ≠ pairOf n) → Refuses s (.laneStatus hd n) hd .notYours) ∧
    (isLane n = true → (∀ p, hd.origin = .console p → p = pairOf n) →
      let l := s.house.lane n
      Answers s (.laneStatus hd n) hd s.house .done (.laneStatus
        { mode := l.mode, causes := l.causes, deck := l.deck, standing := l.standing,
          deliveryInFlight := l.delivery.isSome, frozen := (l.delivery.map (·.frozen)).getD false,
          recoveryOwed := l.recoveryOwed, cycleKind := l.cycle.map (·.kind), flags := l.flags, mask := l.mask,
          options := l.options, tab := l.tab, squad := l.squad, capabilities := l.capabilities })) ∧
    ∃ t, exec (.laneStatus hd n) s = .next t ∧ ∃ u, exec (.laneStatus hd n) t = .next u ∧
      u.house.port.answers.getLast? = t.house.port.answers.getLast?

/-- READ FAULT CONTEXT, READ SQUAD and READ BOWLER give the records as they stand, and change nothing. The handicap that READ
BOWLER gives is that of R68: none where the basis is not above the average, and else the percent of the difference with its
fraction dropped, held to the cap. Where two checks fail at once, the order is log entry 5. -/
def Obligations.ContextSquadAndBowlerReads : Prop :=
  (∀ (s : State) (hd : Header), s.house.quiet → s.takes hd →
    (∀ n, isLane n = true → (∀ p, hd.origin = .console p → p = pairOf n) →
      let l := s.house.lane n
      Answers s (.readFaultContext hd n) hd s.house .done (.faultContext l.flags l.mask l.context
        (discrepancies.filterMap fun k => if l.flags[k.place] then l.raises[k.place] else none))) ∧
    (∀ q r, s.house.squad q = some r → (hd.origin = .desk ∨ hd.origin = .console (pairOf r.lane)) →
      Answers s (.readSquad hd q) hd s.house .done (.squad q r (r.order.filterMap fun k =>
        (s.house.bowler k).map fun b =>
          { number := k, nameTag := b.nameTag, state := b.state, inGame := b.inGame, current := b.sheet.current,
            running := b.sheet.highestRunning }))) ∧
    (∀ k b r, s.house.bowler k = some b → s.house.squad b.squad = some r →
      (hd.origin = .desk ∨ hd.origin = .console (pairOf r.lane)) →
      let hc := handicap r.rule b.average
      Answers s (.readBowler hd k) hd s.house .done (.bowler
        { record := b, handicap := hc,
          runningWithHandicap := (numbers 10).map fun f => ((b.sheet.frame f).running).map (· + hc),
          totalsWithHandicap := b.totals.map fun e => e.total + hc })) ∧
    (∀ n, isLane n = false → Refuses s (.readFaultContext hd n) hd .noRecord) ∧
    (∀ q, s.house.squad q = none → Refuses s (.readSquad hd q) hd .noRecord) ∧
    (∀ k, s.house.bowler k = none → Refuses s (.readBowler hd k) hd .noRecord)) ∧
  ∀ (rule : HandicapRule) (average : Nat),
    (rule.basis ≤ average → handicap rule average = 0) ∧
    (average < rule.basis → (rule.basis - average) * rule.percent / 100 ≤ rule.cap →
      100 * handicap rule average ≤ (rule.basis - average) * rule.percent ∧
        (rule.basis - average) * rule.percent < 100 * handicap rule average + 100) ∧
    (average < rule.basis → rule.cap < (rule.basis - average) * rule.percent / 100 → handicap rule average = rule.cap) ∧
    (rule.cap ≤ 300 → handicap rule average ≤ 300)

/-- RETURN STATUS, CALL LIST, READ PLAN, ATTENTION SUMMARY, READ CLOCK and READ RESTART give the records as they stand and
change nothing (R135, R150, R153, R177, R180, R182); SET CLOCK writes the date and the time held to their ranges, and sets
the set mark (R180). The requests of the house itself are the desk's alone. -/
def Obligations.HouseReadsAndTheClock : Prop :=
  ∀ (s : State) (hd : Header), s.house.quiet → s.takes hd →
    (∀ p, isPair p = true → (∀ c, hd.origin = .console c → c = p) →
      let r := s.house.ret p
      Answers s (.returnStatus hd p) hd s.house .done (.returns
        { jam := r.jam, timeout := r.timeout, count := r.outstanding.length,
          entries := r.outstanding.map fun e => (e.lane, s.house.clock.timebase - e.seen),
          remaining := r.deadline.map fun d => d - s.house.clock.timebase })) ∧
    (∀ p, isPair p = false → isConsole hd.origin = false → Refuses s (.returnStatus hd p) hd .noRecord) ∧
    (∀ p c, isPair p = true → hd.origin = .console c → c ≠ p → Refuses s (.returnStatus hd p) hd .notYours) ∧
    (isConsole hd.origin = false →
      Answers s (.callList hd) hd s.house .done (.calls
        { calls := s.house.calls.queue, unqueued := s.house.unqueuedList, stations := s.house.calls.stations.toList,
          classMap := s.house.calls.classMap,
          dispatch := ([0, 1, 2, 3] : List (Fin 4)).map fun c =>
            (s.house.calls.dispatch[c], match s.house.calls.dispatch[c] with
              | .ratio _ => some s.house.calls.credits[c]
              | .strict => none) })) ∧
    (isConsole hd.origin = true → Refuses s (.callList hd) hd .notYours) ∧
    (hd.origin = .desk →
      (∀ p, 8 ≤ p → Refuses s (.readPlan hd p) hd .noRecord) ∧
      (∀ p, p < 8 → Answers s (.readPlan hd p) hd s.house .done (.plan p (s.house.plan p))) ∧
      Answers s (.attentionSummary hd) hd s.house .done (.summary
        { attention := numbersWhere 48 fun n => (s.house.lane n).causes.attention,
          restart := numbersWhere 48 fun n => (s.house.lane n).causes.restart,
          warnings := numbersWhere 64 fun a => ((s.house.tab a).map fun r => decide (r.warning = .set)).getD false,
          missing := numbersWhere 24 fun p => !(s.house.slot p).present &&
            ((s.house.lane (2 * p - 1)).tab.isSome || (s.house.lane (2 * p)).tab.isSome) }) ∧
      Answers s (.readClock hd) hd s.house .done (.clock s.house.clock.isSet
        (if s.house.clock.isSet then some { day := s.house.clock.day, time := s.house.clock.time } else none)) ∧
      Answers s (.readRestart hd) hd s.house .done (.restart s.house.memory.cause s.house.memory.previous
        s.house.memory.sbokGood s.house.clock.isSet) ∧
      (∀ day hour minute second, Answers s (.setClock hd day hour minute second) hd
        { s.house with clock := { s.house.clock with
          isSet := true, day := min day 65535, time := min hour 23 * 3600 + min minute 59 * 60 + min second 59 } }
        (if 65535 < day ∨ 23 < hour ∨ 59 < minute ∨ 59 < second then .clamped else .done) .empty)) ∧
    (hd.origin ≠ .desk →
      Refuses s (.attentionSummary hd) hd .notYours ∧ Refuses s (.readClock hd) hd .notYours ∧
      Refuses s (.readRestart hd) hd .notYours ∧ Refuses s (.restart hd) hd .notYours ∧
      ∀ day hour minute second, Refuses s (.setClock hd day hour minute second) hd .notYours)

/-- READ TAB and BILL: an OPEN tab is read from its slots and its plan and billed afresh (R170, R171), a DUE tab is read
from its frozen bill and answered with it (R164, R172, R173). Neither changes anything. What a bill holds is the statement
of its lines and sums. A free tab is refused NO_RECORD, and an origin that is neither the desk nor the console of an attached
slot's pair NOT_YOURS, as is every console of a DUE tab's bill. The bands of a DUE tab are read as log entry 18 says. -/
def Obligations.TabAndBillReads : Prop :=
  (∀ (s : State) (hd : Header) (a : Nat) (r : TabRecord), s.house.quiet → s.takes hd → s.house.tab a = some r →
    (hd.origin = .desk ∨ ∃ m ∈ r.slots, m.attached = true ∧ hd.origin = .console (pairOf m.lane)) →
    (∀ p, s.house.plan r.plan = some p → r.state = .opened → r.bill = none →
      Answers s (.readTab hd a) hd s.house .done (.tab
        { number := a, record := r, meteredTotals := r.slots.map MeterSlot.total, bands := p.bands,
          bandSeconds := r.slots.map (·.bandSeconds) }) ∧
      Answers s (.bill hd a) hd s.house .done (.bill (computeBill a r p s.house.stamp))) ∧
    (∀ b, r.bill = some b → r.state = .due → hd.origin = .desk →
      Answers s (.readTab hd a) hd s.house .done (.tab
        { number := a, record := r, meteredTotals := r.slots.map MeterSlot.total,
          bands := ((b.slots.head?.map (·.bands)).getD []).map fun l => { start := l.start, price := l.price },
          bandSeconds := b.slots.map fun l => l.bands.map (·.seconds) }) ∧
      Answers s (.bill hd a) hd s.house .done (.bill b))) ∧
  ∀ (s : State) (hd : Header) (a : Nat), s.house.quiet → s.takes hd →
    (hd.origin = .desk → s.house.tab a = none →
      Refuses s (.readTab hd a) hd .noRecord ∧ Refuses s (.bill hd a) hd .noRecord) ∧
    ∀ r, s.house.tab a = some r → hd.origin ≠ .desk →
      ((∀ m ∈ r.slots, m.attached = true → hd.origin ≠ .console (pairOf m.lane)) →
        Refuses s (.readTab hd a) hd .notYours ∧ Refuses s (.bill hd a) hd .notYours) ∧
      (r.state = .due → Refuses s (.bill hd a) hd .notYours)

/-! ### Lanes (chapters 1, 2 and 6) -/

/-- SET LANE OPTIONS writes the options named, each timeout held to its range, keeps the others, and starts or moves no
timer (R3). Where two checks fail at once, the order is log entry 5. -/
def Obligations.SetLaneOptionsWritesTheOptionsNamed : Prop :=
  ∀ (s : State) (hd : Header) (n : Nat) (e : LaneOptionsEdit), s.house.quiet → s.takes hd →
    (isLane n = false → Refuses s (.setLaneOptions hd n e) hd .noRecord) ∧
    (isLane n = true → hd.origin ≠ .desk → Refuses s (.setLaneOptions hd n e) hd .notYours) ∧
    (isLane n = true → hd.origin = .desk →
      let l := s.house.lane n
      let o := l.options
      let hold := fun (low high held : Nat) (given : Option Nat) => (given.map fun v => max low (min high v)).getD held
      let outside := fun (low high : Nat) (given : Option Nat) => given.any fun v => decide (v < low) || decide (high < v)
      Answers s (.setLaneOptions hd n e) hd
        (s.house.setLane n { l with options :=
          { consoleWake := e.consoleWake.getD o.consoleWake, pitCall := e.pitCall.getD o.pitCall,
            consoleEdits := e.consoleEdits.getD o.consoleEdits,
            consoleCorrections := e.consoleCorrections.getD o.consoleCorrections,
            manualScoring := e.manualScoring.getD o.manualScoring,
            readingTimeout := hold 20 150 o.readingTimeout e.readingTimeout,
            cycleTimeout := hold 50 400 o.cycleTimeout e.cycleTimeout,
            warmUpTimeout := hold 30 180 o.warmUpTimeout e.warmUpTimeout } })
        (if outside 20 150 e.readingTimeout || outside 50 400 e.cycleTimeout || outside 30 180 e.warmUpTimeout then .clamped
          else .done) .empty)

/-- DESK HOLD and DESK RELEASE (R10): the cause named is put in or taken out, a LIVE lane is held by the first cause and a
HELD lane goes LIVE with the last, and the release of RESTART starts deck recovery. The report writes the condition of the
lane's meter slot (R7). -/
def Obligations.DeskHoldsAndReleases : Prop :=
  (∀ (s : State) (hd : Header) (n : Nat), s.house.quiet → s.takes hd →
    (isLane n = false → hd.origin = .desk →
      Refuses s (.deskHold hd n) hd .noRecord ∧ Refuses s (.deskRelease hd n (some .desk)) hd .noRecord ∧
        Refuses s (.deskRelease hd n (some .restart)) hd .noRecord) ∧
    (isLane n = true → hd.origin ≠ .desk →
      ((s.house.lane n).keepsCauses = true → Refuses s (.deskHold hd n) hd .notYours) ∧
      ((s.house.lane n).causes.desk = true → Refuses s (.deskRelease hd n (some .desk)) hd .notYours) ∧
      ((s.house.lane n).causes.restart = true → Refuses s (.deskRelease hd n (some .restart)) hd .notYours))) ∧
  ∀ (s : State) (hd : Header) (n : Nat), s.house.quiet → s.desk hd → isLane n = true →
    let h := s.house
    let l := h.lane n
    (l.keepsCauses = true → l.causes.desk = false →
      Answers s (.deskHold hd n) hd ((h.setLane n { l with
        causes := { l.causes with desk := true }, mode := if l.mode = .live then .held else l.mode }).report n) .done .empty) ∧
    (l.keepsCauses = true → l.causes.desk = true → Answers s (.deskHold hd n) hd h .done .empty) ∧
    (l.keepsCauses = false → Refuses s (.deskHold hd n) hd .wrongState) ∧
    (l.keepsCauses = true → l.causes.desk = true →
      let causes := { l.causes with desk := false }
      Answers s (.deskRelease hd n (some .desk)) hd ((h.setLane n { l with
        causes := causes, mode := if l.mode = .held ∧ causes = .none then .live else l.mode }).report n) .done .empty) ∧
    (l.keepsCauses = true → l.causes.restart = true →
      let causes := { l.causes with restart := false }
      let released := (h.setLane n { l with
        causes := causes, mode := if l.mode = .held ∧ causes = .none then .live else l.mode }).report n
      AnswersSettled s (.deskRelease hd n (some .restart)) hd
        (if l.causes.link then released else released.startRecovery n) .done .empty) ∧
    (l.causes.desk = false → Refuses s (.deskRelease hd n (some .desk)) hd .wrongState) ∧
    (l.causes.restart = false → Refuses s (.deskRelease hd n (some .restart)) hd .wrongState) ∧
    ∀ c ∈ [none, some .attention, some .call, some .link, some .allowance],
      Refuses s (.deskRelease hd n c) hd .badRequest

/-- Deck recovery by the lane's work in flight (R44), and the Lane Unit's answer to a deck need handed outside a ball (R43):
nothing is ordered on an EMPTY deck and on a READY deck that already holds the set, the cycle is ordered on a READY or IDLE
deck otherwise, and a DELIVERY or CYCLING deck is left. That a SWEEP is ordered on an IDLE deck is log entry 25. -/
def Obligations.DeckRecoveryAndNeedsFollowTheDeck : Prop :=
  (∀ (h : House) (n : Nat), isLane n = true → (h.lane n).playing = true → h.roomFor n →
      let l := h.lane n
      ((l.causes.link || l.causes.restart) = true → h.startRecovery n = h) ∧
      ((l.causes.link || l.causes.restart) = false →
        (l.cycle.map (·.kind) = some .resetMachine → h.startRecovery n = h) ∧
        (l.cycle = none → l.delivery.isSome = true → h.startRecovery n = h.setLane n { l with recoveryOwed := true }) ∧
        (l.cycle.map (·.kind) ≠ some .resetMachine → l.delivery = none →
          h.startRecovery n = (h.setLane n { l with
            cycle := some { kind := .resetMachine, commanded := none, deadline := h.clock.timebase + l.options.cycleTimeout,
                            retry := false },
            deck := .cycling, standing := noPins, foulMark := none, recoveryOwed := false, repeatOwed := false }).setSlot
              (pairOf n) ((h.slot (pairOf n)).ordered n .resetMachine)))) ∧
  (∀ (h : House) (n : Nat) (kind : CycleKind) (pins : PinSet),
      let l := h.lane n
      (l.deck = .empty ∨ l.deck = .delivery ∨ l.deck = .cycling → h.handNeed n kind pins = h) ∧
      (l.deck = .ready → commandedSet kind pins = some l.standing → h.handNeed n kind pins = h) ∧
      (isLane n = true → h.roomFor n → (l.deck = .idle ∨ l.deck = .ready ∧ commandedSet kind pins ≠ some l.standing) →
        let ordered := normalCycle kind pins
        h.handNeed n kind pins = (h.setLane n { l with
          cycle := some { kind := ordered, commanded := commandedSet ordered pins,
                          deadline := h.clock.timebase + l.options.cycleTimeout, retry := false },
          deck := .cycling }).setSlot (pairOf n) ((h.slot (pairOf n)).ordered n (cycleOrder ordered pins))))

/-- WAKE is answered by the lane's mode, from the desk (R12) and from a console, as is a START GAME on a lane that is not
playing (R13). A wake that is started (R11): the lane is WARMING with its warm-up deadline, POWER_ON waits in the module's
buffer, the lane takes CALL where a blocking kind is present for it (R8), and its meter slot is IDLE (R166). Nothing else
changes. -/
def Obligations.WakesStartOrAnswerByMode : Prop :=
  (∀ (s : State) (hd : Header) (n : Nat), s.house.quiet → s.desk hd →
      let h := s.house
      let c := Instr.wake hd n
      (isLane n = false → Refuses s c hd .noRecord) ∧
      (isLane n = true →
        ((h.lane n).mode = .dark → (h.lane n).tab.isSome = true → h.modulePresent n = true →
          AnswersSettled s c hd (h.startWake n) .done .empty) ∧
        ((h.lane n).mode = .dark → (h.lane n).tab.isSome = true → h.modulePresent n = false → Refuses s c hd .noMachine) ∧
        ((h.lane n).mode = .dark → (h.lane n).tab = none → Refuses s c hd .wrongState) ∧
        ((h.lane n).mode = .warming → Answers s c hd h .waking .empty) ∧
        ((h.lane n).mode = .live ∨ (h.lane n).mode = .held → Answers s c hd h .done .empty) ∧
        ((h.lane n).mode = .out ∨ (h.lane n).mode = .closing → Refuses s c hd .wrongState))) ∧
  (∀ (s : State) (hd : Header) (n : Nat), s.house.quiet → s.desk hd → isLane n = true →
      (s.house.lane n).mode = .dark → (s.house.lane n).tab.isSome = true → s.house.roomFor n →
      let h := s.house
      let l := h.lane n
      Answers s (.wake hd n) hd
        (((h.setLane n { l with
          mode := .warming, warmUp := some (h.clock.timebase + l.options.warmUpTimeout * 10),
          causes := if h.blocked n then { l.causes with call := true } else l.causes }).setSlot (pairOf n)
            ((h.slot (pairOf n)).ordered n .powerOn)).report n) .done .empty) ∧
  (∀ (s : State) (hd : Header) (n : Nat), s.house.quiet → s.takes hd → isLane n = true →
      let h := s.house
      (hd.origin ≠ .desk → hd.origin ≠ .console (pairOf n) →
        Refuses s (.wake hd n) hd .notYours ∧ Refuses s (.startGame hd n) hd .notYours) ∧
      (hd.origin = .console (pairOf n) → (h.lane n).playing = true → Answers s (.wake hd n) hd h .done .empty) ∧
      (∀ c ∈ [Instr.wake hd n, .startGame hd n],
        (hd.origin = .console (pairOf n) ∨ hd.origin = .desk ∧ c = .startGame hd n) → (h.lane n).playing = false →
        ((h.lane n).mode = .dark → (h.lane n).tab.isSome = true →
          (hd.origin = .desk ∨ (h.lane n).options.consoleWake = true) → h.modulePresent n = true →
          AnswersSettled s c hd (h.startWake n) .waking .empty) ∧
        ((h.lane n).mode = .dark → (h.lane n).tab.isSome = true →
          (hd.origin = .desk ∨ (h.lane n).options.consoleWake = true) → h.modulePresent n = false →
          Refuses s c hd .noMachine) ∧
        ((h.lane n).mode = .dark → (h.lane n).tab.isSome = true → hd.origin ≠ .desk →
          (h.lane n).options.consoleWake = false → Refuses s c hd .wrongState) ∧
        ((h.lane n).mode = .dark → (h.lane n).tab = none → Refuses s c hd .wrongState) ∧
        ((h.lane n).mode = .warming → Answers s c hd h .waking .empty) ∧
        ((h.lane n).mode = .out ∨ (h.lane n).mode = .closing → Refuses s c hd .wrongState)))

/-- LANE OUT isolates a DARK lane with no tab, and LANE IN returns it; OPEN TAB and ATTACH refuse an OUT lane (R20). -/
def Obligations.LaneOutAndLaneIn : Prop :=
  ∀ (s : State) (hd : Header) (n : Nat), s.house.quiet → s.takes hd →
    let h := s.house
    let l := h.lane n
    (isLane n = false → hd.origin = .desk →
      Refuses s (.laneOut hd n) hd .noRecord ∧ Refuses s (.laneIn hd n) hd .noRecord) ∧
    (isLane n = true → hd.origin ≠ .desk →
      (l.mode = .dark → l.tab = none → Refuses s (.laneOut hd n) hd .notYours) ∧
      (l.mode = .out → Refuses s (.laneOut hd n) hd .notYours ∧ Refuses s (.laneIn hd n) hd .notYours)) ∧
    (isLane n = true → hd.origin = .desk →
      (l.mode = .dark → l.tab = none → Answers s (.laneOut hd n) hd (h.setLane n { l with mode := .out }) .done .empty) ∧
      (l.mode = .dark → l.tab.isSome = true → Refuses s (.laneOut hd n) hd .inUse) ∧
      (l.mode = .out → Answers s (.laneOut hd n) hd h .done .empty) ∧
      (l.mode ≠ .dark → l.mode ≠ .out → Refuses s (.laneOut hd n) hd .wrongState) ∧
      (l.mode = .out → Answers s (.laneIn hd n) hd (h.setLane n { l with mode := .dark }) .done .empty) ∧
      (l.mode ≠ .out → Refuses s (.laneIn hd n) hd .wrongState) ∧
      (l.mode = .out →
        (∀ p auto a lead, p < 8 → h.clock.isSet = true → h.freeTab.isSome = true →
          Refuses s (.openTab hd p (some n) auto a lead) hd .wrongState) ∧
        ∀ t r auto, h.tab t = some r → Refuses s (.attach hd t n auto) hd .wrongState))

/-- LANE RESET drops the work in flight of a playing lane and orders RESET_MACHINE (R21, R44); it leaves scores, flags,
causes and mode as they were. A lane that holds RESTART waits for its release. -/
def Obligations.LaneResetDropsTheWorkAndRecovers : Prop :=
  ∀ (s : State) (hd : Header) (n : Nat), s.house.quiet → s.desk hd → isLane n = true →
    let h := s.house
    let l := h.lane n
    (l.playing = false → Refuses s (.laneReset hd n) hd .wrongState) ∧
    (l.playing = true → l.causes.link = true → Refuses s (.laneReset hd n) hd .noMachine) ∧
    (l.playing = true → l.causes.link = false → h.roomFor n → l.causes.restart = false →
      Answers s (.laneReset hd n) hd ((h.setLane n { l with
          delivery := none,
          cycle := some { kind := .resetMachine, commanded := none, deadline := h.clock.timebase + l.options.cycleTimeout,
                          retry := false },
          deck := .cycling, standing := noPins, foulMark := none, recoveryOwed := false, repeatOwed := false,
          context := l.context.map fun r => { r with holdsDelivery := false } }).setSlot (pairOf n)
            ((h.slot (pairOf n)).ordered n .resetMachine)) .done .empty) ∧
    (l.playing = true → l.causes.link = false → h.modulePresent n = true → l.causes.restart = true →
      Answers s (.laneReset hd n) hd (h.setLane n { l with
          delivery := none, cycle := none, foulMark := none, recoveryOwed := false, repeatOwed := false,
          deck := if l.delivery.isSome || l.cycle.isSome then .empty else l.deck,
          standing := if l.delivery.isSome || l.cycle.isSome then noPins else l.standing,
          context := l.context.map fun r => { r with holdsDelivery := false } }) .done .empty)

/-- MOVE carries a squad and its tab to a DARK lane, which warms up, while the source closes with nothing retired (R22). Each
check of the table of R22 that fails refuses it with its reason, in the table's order; an origin other than the desk is
refused after the check of the lane numbers (R176). -/
def Obligations.MoveCarriesSquadAndTab : Prop :=
  (∀ (s : State) (hd : Header) (a b q t : Nat) (rq : SquadRecord) (rt : TabRecord) (m : MeterSlot),
    s.house.quiet → s.desk hd → isLane a = true → isLane b = true → a ≠ b →
    (s.house.lane a).playing = true → (s.house.lane a).squad = some q → (s.house.lane a).tab = some t →
    s.house.squad q = some rq → s.house.tab t = some rt → rt.slots = [m] → m.lane = a → rq.mode = .openPlay →
    (s.house.lane b).mode = .dark → (s.house.lane b).tab = none → s.house.modulePresent b = true →
    ((s.house.lane a).delivery.isSome = true → Refuses s (.move hd a b) hd .inFlight) ∧
    ((s.house.lane a).delivery = none → ∃ u, exec (.move hd a b) s = .next u ∧
      u.pending = s.pending ∧
      u.house.port.answers = s.house.port.answers ++ [{ sequence := hd.sequence, result := .done, body := .empty }] ∧
      (u.house.lane a).mode = .closing ∧ (u.house.lane a).squad = none ∧ (u.house.lane a).tab = none ∧
      (u.house.lane a).causes = .none ∧
      (u.house.lane b).mode = .warming ∧ (u.house.lane b).squad = some q ∧ (u.house.lane b).tab = some t ∧
      u.house.squad q = some { rq with lane := b } ∧
      u.house.tab t = some { rt with slots := [{ m with lane := b, attached := true, condition := some .idle }] } ∧
      u.house.bowlers = s.house.bowlers ∧ u.house.calls = s.house.calls ∧ u.house.plans = s.house.plans ∧
      u.house.clock = s.house.clock ∧ u.house.memory = s.house.memory)) ∧
  ∀ (s : State) (hd : Header) (a b : Nat), s.house.quiet → s.takes hd →
    let h := s.house
    let c := Instr.move hd a b
    ((isLane a = false ∨ isLane b = false) → Refuses s c hd .noRecord) ∧
    (isLane a = true → isLane b = true →
      (hd.origin ≠ .desk → Refuses s c hd .notYours) ∧
      (hd.origin = .desk → a = b → Refuses s c hd .outOfRange) ∧
      (hd.origin = .desk → a ≠ b →
        (((h.lane a).playing = false ∨ (h.lane a).tab = none ∨ (h.lane a).squad = none) → Refuses s c hd .wrongState) ∧
        ((h.lane a).playing = true → ∀ q, (h.lane a).squad = some q → ∀ rq, h.squad q = some rq →
          ∀ t, (h.lane a).tab = some t → ∀ rt, h.tab t = some rt →
          ((rq.mode = .pairPlay ∨ 2 ≤ rt.slots.length) → Refuses s c hd .wrongState) ∧
          (rq.mode = .openPlay → rt.slots.length < 2 →
            ((h.lane a).delivery.isSome = true → Refuses s c hd .inFlight) ∧
            ((h.lane a).delivery = none → ((h.lane b).mode ≠ .dark ∨ (h.lane b).tab.isSome = true) →
              Refuses s c hd .wrongState) ∧
            ((h.lane a).delivery = none → (h.lane b).mode = .dark → (h.lane b).tab = none → h.modulePresent b = false →
              Refuses s c hd .noMachine)))))

/-- MANUAL ENTRY completes a MANUAL delivery (R36, R35): the ball is recorded with the set entered, and where the frame goes
on the next cycle is a RESPOT of the owed set (R60, R38). It is taken from the desk and from the console of the lane's pair.
A READ delivery, no delivery, and a set with a pin too many are refused. -/
def Obligations.ManualEntryCompletesTheDelivery : Prop :=
  ∀ (s : State) (hd : Header) (n : Nat) (after : PinSet) (mark : Option Bool),
    s.house.quiet → s.takes hd →
    let h := s.house
    let l := h.lane n
    (isLane n = false → Refuses s (.manualEntry hd n after mark) hd .noRecord) ∧
    (isLane n = true → hd.origin ≠ .desk → hd.origin ≠ .console (pairOf n) →
      Refuses s (.manualEntry hd n after mark) hd .notYours) ∧
    (isLane n = true → (hd.origin = .desk ∨ hd.origin = .console (pairOf n)) →
    (l.delivery = none → Refuses s (.manualEntry hd n after mark) hd .wrongState) ∧
    ∀ d, l.delivery = some d →
      (d.manner = .read → Refuses s (.manualEntry hd n after mark) hd .wrongState) ∧
      (d.manner = .manual → after &&& ~~~d.before ≠ noPins → Refuses s (.manualEntry hd n after mark) hd .outOfRange) ∧
      (d.manner = .manual → after &&& ~~~d.before = noPins →
        let foul := d.foul || mark.getD false
        AnswersSettled s (.manualEntry hd n after mark) hd
          ((h.setLane n { l with delivery := some { d with foul := foul } }).completeDelivery n after) .done .empty ∧
        ∀ b, h.bowler d.bowler = some b → l.recoveryOwed = false → h.roomFor n →
          let recorded := b.sheet.record d.before after foul d.speed
          let kind := normalCycle .respot recorded.1.owed
          recorded.2 = false →
            Answers s (.manualEntry hd n after mark) hd
              (((h.setBowler d.bowler (some { b with sheet := recorded.1 })).setLane n { l with
                delivery := none, standing := after, deck := .cycling,
                cycle := some { kind := kind, commanded := commandedSet kind recorded.1.owed,
                                deadline := h.clock.timebase + l.options.cycleTimeout, retry := false } }).setSlot (pairOf n)
                  ((h.slot (pairOf n)).ordered n (cycleOrder kind recorded.1.owed))) .done .empty))

/-- SET DISCREPANCY MASK, CLEAR FLAGS and RESOLVE (R117 to R123) on a playing lane: what each does to the mask, the flags
and their raise records, and that ATTENTION and the context are held afterwards exactly while attention is on; that a frozen
delivery is dropped with its context (R119, R123); the BAD_REQUEST of CLEAR FLAGS for a name that is no kind; and the
refusals of RESOLVE (06 TABLE 3) by its subject: a frozen delivery, or none with the context's kind and the deck as they are.
A lane outside 1 to 48 is refused NO_RECORD, and an origin other than the desk NOT_YOURS. A context saved by the same CLEAR
FLAGS is log entry 17, and the order of CLEAR FLAGS' refusals log entry 5. -/
def Obligations.MaskFlagsAndResolveFollowAttention : Prop :=
  (∀ (s : State) (hd : Header) (n : Nat), s.house.quiet → s.desk hd → isLane n = true → (s.house.lane n).playing = true →
    (s.house.lane n).deckFits = true → (s.house.lane n).contextFits = true → (s.house.lane n).attentionFits = true →
    let l := s.house.lane n
    let answered := s.house.port.answers ++ [{ sequence := hd.sequence, result := .done, body := .empty }]
    (∀ bits : Vector (Option Bool) 6, ∃ t, exec (.setDiscrepancyMask hd n bits) s = .next t ∧ t.pending = s.pending ∧
      t.house.port.answers = answered ∧ (t.house.lane n).flags = l.flags ∧ (t.house.lane n).raises = l.raises ∧
      (∀ k : Discrepancy, (t.house.lane n).mask[k.place] = (bits[k.place]).getD l.mask[k.place]) ∧
      (t.house.lane n).causes.attention = (t.house.lane n).attention ∧
      (t.house.lane n).context.isSome = (t.house.lane n).attention ∧
      (l.attention = true → (t.house.lane n).attention = true → (t.house.lane n).context = l.context) ∧
      (l.frozen = true → l.attention = true → (t.house.lane n).attention = false → (t.house.lane n).delivery = none) ∧
      t.house.bowlers = s.house.bowlers ∧ t.house.squads = s.house.squads ∧ t.house.calls = s.house.calls) ∧
    (∀ kinds : List Discrepancy, ∃ t, exec (.clearFlags hd n (kinds.map some)) s = .next t ∧ t.pending = s.pending ∧
      t.house.port.answers = answered ∧ (t.house.lane n).mask = l.mask ∧
      (∀ k : Discrepancy, (t.house.lane n).flag k = (l.flag k && !kinds.contains k) ∧
        (t.house.lane n).raised k = if kinds.contains k then none else l.raised k) ∧
      (∀ c, l.context = some c →
        (l.frozen = true → (kinds.contains c.kind = true ∨ (t.house.lane n).attention = false) →
          (t.house.lane n).delivery = none) ∧
        (kinds.contains c.kind = false → (t.house.lane n).attention = true →
          (t.house.lane n).context = some c ∧ (t.house.lane n).delivery = l.delivery ∧ (t.house.lane n).cycle = l.cycle)) ∧
      (t.house.lane n).causes.attention = (t.house.lane n).attention ∧
      (t.house.lane n).context.isSome = (t.house.lane n).attention ∧
      t.house.bowlers = s.house.bowlers ∧ t.house.squads = s.house.squads ∧ t.house.calls = s.house.calls) ∧
    (∀ a : ResolveAction, l.context = none → Refuses s (.resolve hd n (some a)) hd .wrongState) ∧
    (l.context = none → Refuses s (.resolve hd n none) hd .badRequest) ∧
    ∀ (a : ResolveAction) (c : RaiseRecord), l.context = some c → resolveRefusal l c a = none →
      ∃ t, exec (.resolve hd n (some a)) s = .next t ∧ t.pending = s.pending ∧ t.house.port.answers = answered ∧
        (t.house.lane n).flags = Vector.replicate 6 false ∧ (t.house.lane n).raises = Vector.replicate 6 none ∧
        (t.house.lane n).mask = l.mask ∧ (t.house.lane n).context = none ∧ (t.house.lane n).causes.attention = false) ∧
  ∀ (s : State) (hd : Header) (n : Nat), s.house.quiet → s.takes hd →
    (∀ bits kinds action, ∀ c ∈ [Instr.setDiscrepancyMask hd n bits, .clearFlags hd n (List.map some kinds),
        .resolve hd n action],
      (isLane n = false → hd.origin = .desk → Refuses s c hd .noRecord) ∧
        (isLane n = true → hd.origin ≠ .desk → Refuses s c hd .notYours)) ∧
    (∀ kinds : List (Option Discrepancy), isLane n = true → (kinds.any fun k => k.isNone) = true →
      Refuses s (.clearFlags hd n kinds) hd .badRequest) ∧
    (isLane n = true → hd.origin = .desk →
      let l := s.house.lane n
      ∀ x, l.context = some x →
        let standing := x.kind = .setMismatch ∨ x.kind = .phantomFall
        (∀ d, l.delivery = some d → d.frozen = true →
          ((x.holdsDelivery = false ∨ x.reading = none) → Refuses s (.resolve hd n (some .accept)) hd .wrongState) ∧
          ∀ pins, pins &&& ~~~d.before ≠ noPins → Refuses s (.resolve hd n (some (.enter pins))) hd .outOfRange) ∧
        (l.frozen = false → ∀ pins,
          (¬standing → Refuses s (.resolve hd n (some (.enter pins))) hd .wrongState) ∧
          (standing → ∀ a ∈ [ResolveAction.accept, .enter pins],
            ((l.delivery.isSome = true ∨ l.cycle.isSome = true) → Refuses s (.resolve hd n (some a)) hd .inFlight) ∧
            (l.delivery = none → l.cycle = none → (l.causes.link = true ∨ l.causes.restart = true) →
              Refuses s (.resolve hd n (some a)) hd .wrongState))))

/-- What RESOLVE does to its subject (R122): ACCEPT and ENTER complete a frozen delivery, with the context's reading less
the risen pins or with the set given, or put the standing set; VOID drops a frozen delivery and recovers the deck, orders
the context's cycle of a SET_MISMATCH again, and recovers the deck in every other case; and ACCEPT with no subject leaves
the deck as it is, but for the recovery of an EMPTY one (R118). -/
def Obligations.ResolveDisposesOfItsSubject : Prop :=
  ∀ (s : State) (hd : Header) (n : Nat) (c : RaiseRecord), s.house.quiet → s.desk hd → isLane n = true →
    (s.house.lane n).playing = true → (s.house.lane n).context = some c → s.house.roomFor n →
    (s.house.lane n).causes.link = false → (s.house.lane n).causes.restart = false →
    let h := s.house
    let l := h.lane n
    (∀ pins, l.delivery = none → l.cycle = none → (c.kind = .setMismatch ∨ c.kind = .phantomFall) →
      ∃ t, exec (.resolve hd n (some (.enter pins))) s = .next t ∧ (t.house.lane n).standing = pins ∧
        (t.house.lane n).deck = .ready ∧ (t.house.lane n).cycle = none ∧ t.house.machine = h.machine ∧
        t.house.bowlers = h.bowlers) ∧
    (∀ pins, l.delivery = none → l.cycle = none → (c.kind = .setMismatch ∨ c.kind = .phantomFall) →
      c.reading = some pins → ∃ t, exec (.resolve hd n (some .accept)) s = .next t ∧ (t.house.lane n).standing = pins ∧
        (t.house.lane n).deck = .ready ∧ (t.house.lane n).cycle = none ∧ t.house.machine = h.machine ∧
        t.house.bowlers = h.bowlers) ∧
    (∀ d, l.delivery = some d → d.frozen = true → l.cycle = none →
      ∃ t, exec (.resolve hd n (some .void)) s = .next t ∧ (t.house.lane n).delivery = none ∧
        (t.house.lane n).cycle.map (·.kind) = some .resetMachine ∧ (t.house.lane n).standing = noPins ∧
        t.house.slot (pairOf n) = (h.slot (pairOf n)).ordered n .resetMachine ∧ t.house.bowlers = h.bowlers) ∧
    (l.delivery = none →
      (∀ kind pins, c.kind = .setMismatch → c.cycleKind = some kind → c.commanded = some pins → l.cycle = none →
        (kind = .newRack ∧ pins = fullRack ∨ kind = .respot ∧ pins ≠ fullRack ∧ pins ≠ noPins) →
        ∃ t, exec (.resolve hd n (some .void)) s = .next t ∧ (t.house.lane n).deck = .cycling ∧
          (t.house.lane n).cycle = some { kind := kind, commanded := some pins,
                                          deadline := h.clock.timebase + l.options.cycleTimeout, retry := false } ∧
          (t.house.lane n).standing = l.standing ∧
          t.house.slot (pairOf n) = (h.slot (pairOf n)).ordered n (.cycle kind pins) ∧ t.house.bowlers = h.bowlers) ∧
      ((c.kind ≠ .setMismatch ∨ l.cycle.isSome = true) → l.cycle.map (·.kind) ≠ some .resetMachine →
        ∃ t, exec (.resolve hd n (some .void)) s = .next t ∧ (t.house.lane n).standing = noPins ∧
          (t.house.lane n).cycle.map (·.kind) = some .resetMachine ∧
          t.house.slot (pairOf n) = (h.slot (pairOf n)).ordered n .resetMachine ∧ t.house.bowlers = h.bowlers)) ∧
    (∀ d, l.delivery = some d → d.frozen = false → l.cycle = none →
      ∃ t, exec (.resolve hd n (some .void)) s = .next t ∧ (t.house.lane n).delivery = some d ∧
        (t.house.lane n).recoveryOwed = true ∧ (t.house.lane n).deck = l.deck ∧ t.house.machine = h.machine ∧
        t.house.bowlers = h.bowlers) ∧
    (c.kind ≠ .setMismatch → c.kind ≠ .phantomFall → l.frozen = false →
      ((l.deck ≠ .empty ∨ l.busy = true) → ∃ t, exec (.resolve hd n (some .accept)) s = .next t ∧
        (t.house.lane n).deck = l.deck ∧ (t.house.lane n).standing = l.standing ∧
        (t.house.lane n).delivery = l.delivery ∧ (t.house.lane n).cycle = l.cycle ∧ t.house.machine = h.machine ∧
        t.house.bowlers = h.bowlers) ∧
      (l.deck = .empty → l.delivery = none → l.cycle = none → ∃ t, exec (.resolve hd n (some .accept)) s = .next t ∧
        (t.house.lane n).cycle.map (·.kind) = some .resetMachine ∧
        t.house.slot (pairOf n) = (h.slot (pairOf n)).ordered n .resetMachine ∧ t.house.bowlers = h.bowlers)) ∧
    ∀ d, l.delivery = some d → d.frozen = true → ∀ b, h.bowler d.bowler = some b →
      let completed := fun (a : ResolveAction) (after : PinSet) =>
        let recorded := b.sheet.record d.before after d.foul d.speed
        let scored := (h.setLane n { l with delivery := none, standing := after }).scoreBall n d after
        ∃ t, exec (.resolve hd n (some a)) s = .next t ∧ (t.house.lane n).delivery = none ∧
          t.house.bowlers = scored.1.bowlers ∧ t.house.squads = scored.1.squads ∧
          (recorded.2 = false → (t.house.lane n).deck = .cycling ∧
            t.house.bowler d.bowler = some { b with sheet := recorded.1 } ∧
            ∀ k, k ≠ d.bowler → t.house.bowler k = h.bowler k)
      (∀ pins, pins &&& ~~~d.before = noPins → completed (.enter pins) pins) ∧
      (∀ pins, c.holdsDelivery = true → c.reading = some pins → completed .accept (pins &&& d.before))

/-! ### Module events and deadlines of a lane (chapters 1, 2 and 6) -/

/-- BALL_SEEN and FOUL by the lane's mode and deck, and the expiry of a foul mark pending (R23, R24, R28 to R31, R127): a
ball begins a delivery on a LIVE lane with deck READY and a bowler UP, raises DOUBLE_BALL or EARLY_BALL elsewhere in play,
and counts out in play and in CLOSING. That FOUL_WINDOW_EXPIRY sent before its time does nothing is log entry 6. -/
def Obligations.BallsSeenAndFoulsAreTaken : Prop :=
  ∀ (s : State) (n : Nat) (speed : Option Half), s.house.quiet → s.house.runs = true → isLane n = true →
    s.house.modulePresent n = true →
    let h := s.house
    let l := h.lane n
    let p := pairOf n
    let r := h.ret p
    let counted := { r with
      outstanding := r.outstanding ++ [{ lane := n, seen := h.clock.timebase }],
      deadline := if r.outstanding = [] ∧ r.jam = none then some (h.clock.timebase + r.timeout * 10) else r.deadline }
    let c := Instr.ballSeen n speed
    (r.outstanding.length < 8 → 1 ≤ r.timeout →
      (∀ k, l.mode = .live → l.deck = .ready → h.upOn n = some k →
        let read := l.capabilities.camera && !l.options.manualScoring
        Becomes s c ((h.setLane n { l with
          deck := .delivery, foulMark := none,
          delivery := some
            { bowler := k, before := l.standing, foul := l.foulMark.isSome, seen := h.clock.timebase, speed := speed,
              manner := if read then .read else .manual,
              deadline := if read then some (h.clock.timebase + l.options.readingTimeout) else none, reRead := false,
              frozen := false } }).setRet p counted)) ∧
      (l.mode = .closing → Becomes s c (h.setRet p counted)) ∧
      (∀ d, l.mode = .live → l.deck = .delivery → l.delivery = some d →
        ∃ t, exec c s = .next t ∧ (t.house.lane n).flag .doubleBall = true ∧ (t.house.lane n).delivery = some d ∧
          (t.house.lane n).deck = .delivery ∧ (t.house.lane n).foulMark = none ∧ t.house.ret p = counted ∧
          t.house.bowlers = h.bowlers ∧ t.house.machine = h.machine) ∧
      (l.deckFits = true → (l.mode = .held ∨ l.mode = .live ∧ (l.deck = .cycling ∨ l.deck = .idle ∨ l.deck = .empty ∨
          l.deck = .ready ∧ h.upOn n = none)) →
        ∃ t, exec c s = .next t ∧ (t.house.lane n).flag .earlyBall = true ∧ (t.house.lane n).foulMark = none ∧
          (t.house.lane n).repeatOwed = (l.repeatOwed || (l.cycle.isSome && l.masked .earlyBall)) ∧
          t.house.ret p = counted ∧ t.house.bowlers = h.bowlers)) ∧
    ((l.mode = .out ∨ l.mode = .dark ∨ l.mode = .warming) →
      Becomes s c (if l.options.pitCall then h.raiseCall n .ballInPit else h)) ∧
    (r.outstanding.length = 8 → l.mode = .closing → Becomes s c (h.raiseJam p .full)) ∧
    (l.playing = true →
      (∀ d, l.delivery = some d → Becomes s (.foul n) (h.setLane n { l with delivery := some { d with foul := true } })) ∧
      (l.delivery = none → Becomes s (.foul n) (h.setLane n { l with foulMark := some (h.clock.timebase + 40) }))) ∧
    (l.playing = false → Becomes s (.foul n) h) ∧
    (∀ d, l.foulMark = some d →
      (d ≤ h.clock.timebase → Becomes s (.foulWindowExpiry n) (h.setLane n { l with foulMark := none })) ∧
      (h.clock.timebase < d → Becomes s (.foulWindowExpiry n) h)) ∧
    (l.foulMark = none → Becomes s (.foulWindowExpiry n) h)

/-- DECK_READ and the reading deadline (R32 to R34, R17, R111, R112, R116, R119): a reading within the standing-before set
completes a READ delivery; one with a pin risen raises PIN_RISE, which masked completes the ball with the risen pin left
out and unmasked freezes the delivery; one with a standing pin missing and nothing in flight raises PHANTOM_FALL; and a
deadline raises NO_READING and then fails the reader, with any recovery owed taken up. That the standing set of a CLOSING
lane is {} once its unscored delivery has ended is the model's choice (log entry 31). That READING_DEADLINE sent before its
time does nothing is log entry 6. -/
def Obligations.DeckReadingsAndTheirDeadline : Prop :=
  ∀ (s : State) (n : Nat) (pins : PinSet), s.house.quiet → s.house.runs = true → isLane n = true → s.house.roomFor n →
    let h := s.house
    let l := h.lane n
    let c := Instr.deckRead n pins
    let sweeping := (h.setLane n { l with
      delivery := none, standing := noPins, deck := .cycling,
      cycle := some { kind := .sweep, commanded := some noPins, deadline := h.clock.timebase + l.options.cycleTimeout,
                      retry := false } }).setSlot (pairOf n) ((h.slot (pairOf n)).ordered n (.cycle .sweep noPins))
    (l.playing = true →
      (∀ d, l.delivery = some d →
        (d.manner = .manual → Becomes s c h) ∧
        (d.manner = .read → d.frozen = true → Becomes s c (h.setLane n { l with
          context := l.context.map fun r => if r.holdsDelivery then { r with reading := some pins } else r })) ∧
        (d.manner = .read → d.frozen = false → pins &&& ~~~d.before = noPins →
          Becomes s c (h.completeDelivery n pins).settle) ∧
        (d.manner = .read → d.frozen = false → pins &&& ~~~d.before ≠ noPins →
          (l.masked .pinRise = true →
            let after := pins &&& d.before
            let noted := l.note (h.deliveryRaise .pinRise d (some pins))
            let scored := (h.setLane n { noted with delivery := none, standing := after }).scoreBall n d after
            ∃ t, exec c s = .next t ∧ (t.house.lane n).delivery = none ∧ (t.house.lane n).flag .pinRise = true ∧
              ((t.house.lane n).raised .pinRise).bind (·.reading) = some pins ∧
              t.house.bowlers = scored.1.bowlers ∧ t.house.squads = scored.1.squads ∧
              ∀ b, h.bowler d.bowler = some b →
                let recorded := b.sheet.record d.before after d.foul d.speed
                recorded.2 = false → (t.house.lane n).deck = .cycling ∧
                  t.house.bowler d.bowler = some { b with sheet := recorded.1 } ∧
                  ∀ k, k ≠ d.bowler → t.house.bowler k = h.bowler k) ∧
          (l.masked .pinRise = false → ∃ t, exec c s = .next t ∧ (t.house.lane n).flag .pinRise = true ∧
            (t.house.lane n).delivery = some { d with frozen := true, deadline := none } ∧
            (t.house.lane n).deck = l.deck ∧ t.house.bowlers = h.bowlers ∧ t.house.machine = h.machine))) ∧
      (l.delivery = none → l.cycle.isSome = true → Becomes s c h) ∧
      (l.delivery = none → l.cycle = none → l.standing &&& ~~~pins = noPins → Becomes s c h) ∧
      (l.delivery = none → l.cycle = none → l.standing &&& ~~~pins ≠ noPins → l.deck ≠ .empty →
        ∃ t, exec c s = .next t ∧ (t.house.lane n).flag .phantomFall = true ∧ (t.house.lane n).standing = l.standing ∧
          (t.house.lane n).deck = l.deck ∧ t.house.bowlers = h.bowlers ∧ t.house.machine = h.machine)) ∧
    (l.playing = false → l.mode ≠ .closing → Becomes s c h) ∧
    (l.mode = .closing → l.delivery = none → Becomes s c h) ∧
    (l.mode = .closing → l.delivery.isSome = true → l.cycle = none → Becomes s c sweeping) ∧
    (l.delivery = none → Becomes s (.readingDeadline n) h) ∧
    ∀ d, l.delivery = some d →
      (h.reached d.deadline = false → Becomes s (.readingDeadline n) h) ∧
      (h.reached d.deadline = true → l.mode = .closing → l.cycle = none → Becomes s (.readingDeadline n) sweeping) ∧
      (h.reached d.deadline = true → l.playing = true →
        (d.reRead = false → l.masked .noReading = true → ∃ t, exec (.readingDeadline n) s = .next t ∧
          (t.house.lane n).flag .noReading = true ∧
          (t.house.lane n).delivery =
            some { d with reRead := true, deadline := some (h.clock.timebase + l.options.readingTimeout) } ∧
          t.house.slot (pairOf n) = (h.slot (pairOf n)).ordered n .reRead ∧ t.house.bowlers = h.bowlers) ∧
        (d.reRead = false → l.masked .noReading = false → ∃ t, exec (.readingDeadline n) s = .next t ∧
          (t.house.lane n).flag .noReading = true ∧
          (t.house.lane n).delivery = some { d with frozen := true, deadline := none } ∧
          t.house.machine = h.machine ∧ t.house.bowlers = h.bowlers) ∧
        (d.reRead = true → l.recoveryOwed = false → Becomes s (.readingDeadline n)
          (let u := h.raiseCall n .readerFail
           u.setLane n { u.lane n with delivery := none, deck := .empty, standing := noPins })) ∧
        (d.reRead = true → l.recoveryOwed = true → l.cycle = none →
          let u := h.raiseCall n .readerFail
          let failed := { u.lane n with delivery := none, deck := DeckState.empty, standing := noPins, recoveryOwed := false }
          ((l.causes.link = true ∨ l.causes.restart = true) → Becomes s (.readingDeadline n) (u.setLane n failed)) ∧
          (l.causes.link = false → l.causes.restart = false → Becomes s (.readingDeadline n)
            ((u.setLane n { failed with
              foulMark := none, repeatOwed := false, deck := .cycling,
              cycle := some { kind := .resetMachine, commanded := none,
                              deadline := h.clock.timebase + l.options.cycleTimeout, retry := false } }).setSlot (pairOf n)
                ((h.slot (pairOf n)).ordered n .resetMachine)))))

/-- CYCLE_DONE, FAULT and the cycle deadline (R39 to R42, R17, R23, R45, R113): a cycle that passes leaves its commanded set
and the deck state of its kind, RESET_MACHINE is followed by the cycle of the expected deck, a set that differs raises
SET_MISMATCH and then SET_FAIL, a timeout or a fault ends the cycle with its call, and a repeat owed orders a NEW_RACK or
RESPOT again (R115). On a CLOSING lane the end of a cycle of play orders SWEEP, with no verification check, and the end of the
SWEEP makes the lane DARK (R17). That CYCLE_DEADLINE sent before its time does nothing is log entry 6, that any SWEEP of a
CLOSING lane is its closing SWEEP log entry 13, and what a cycle ended there leaves standing log entry 31. -/
def Obligations.CyclesEndAndFaultsRaiseCalls : Prop :=
  ∀ (s : State) (n : Nat) (verification : Option PinSet) (code : Half), s.house.quiet → s.house.runs = true →
    isLane n = true → s.house.roomFor n →
    let h := s.house
    let l := h.lane n
    let c := Instr.cycleDone n verification
    let dropped := { l with cycle := none, repeatOwed := false, deck := DeckState.empty, standing := noPins }
    let ordered := fun (left : LaneRecord) (kind : CycleKind) (pins : PinSet) =>
      (h.setLane n { left with
        deck := .cycling,
        cycle := some { kind := kind, commanded := some pins, deadline := h.clock.timebase + l.options.cycleTimeout,
                        retry := false } }).setSlot (pairOf n) ((h.slot (pairOf n)).ordered n (.cycle kind pins))
    (l.cycle = none → Becomes s c h ∧ Becomes s (.cycleDeadline n) h ∧
      Becomes s (.fault n code) (h.raiseCall n .machineJam (some code))) ∧
    ∀ y, l.cycle = some y →
      (l.playing = true →
        ((y.kind = .sweep ∨ y.kind = .resetMachine ∨ l.capabilities.camera = false ∨ verification = none ∨
            y.commanded = verification) →
          (y.kind = .sweep → y.commanded = some noPins →
            Becomes s c (h.setLane n { l with cycle := none, standing := noPins, deck := .idle, repeatOwed := false })) ∧
          (∀ pins, y.commanded = some pins → (y.kind = .newRack ∨ y.kind = .respot) → l.repeatOwed = false →
            Becomes s c (h.setLane n { l with cycle := none, standing := pins, deck := .ready })) ∧
          (y.commanded = some fullRack → y.kind = .newRack → l.repeatOwed = true →
            Becomes s c (ordered { l with standing := fullRack, repeatOwed := false } .newRack fullRack)) ∧
          (∀ pins, y.commanded = some pins → y.kind = .respot → l.repeatOwed = true → pins ≠ fullRack → pins ≠ noPins →
            Becomes s c (ordered { l with standing := pins, repeatOwed := false } .respot pins)) ∧
          (y.commanded = none → y.kind = .resetMachine →
            let left := { l with standing := noPins, repeatOwed := false }
            (h.expectedDeck n = none → Becomes s c (ordered left .sweep noPins)) ∧
            (∀ pins, h.expectedDeck n = some (pins, true) → Becomes s c (ordered left .newRack fullRack)) ∧
            (∀ pins, h.expectedDeck n = some (pins, false) →
              Becomes s c (ordered left (normalCycle .respot pins) pins)))) ∧
        (∀ reading, verification = some reading → l.capabilities.camera = true →
          (y.kind = .newRack ∨ y.kind = .respot) → y.commanded ≠ some reading →
          (y.retry = true → Becomes s c ((h.setLane n dropped).raiseCall n .setFail)) ∧
          (y.retry = false → ∃ t, exec c s = .next t ∧ (t.house.lane n).flag .setMismatch = true ∧
            t.house.bowlers = h.bowlers ∧
            (l.masked .setMismatch = true → (t.house.lane n).deck = .cycling ∧
              (t.house.lane n).cycle.map (·.retry) = some true ∧ (t.house.lane n).standing = l.standing) ∧
            (l.masked .setMismatch = false → (t.house.lane n).deck = .empty ∧ (t.house.lane n).cycle = none ∧
              (t.house.lane n).standing = noPins ∧ t.house.machine = h.machine))) ∧
        (y.deadline ≤ h.clock.timebase → Becomes s (.cycleDeadline n) ((h.setLane n dropped).raiseCall n .cycleTimeout)) ∧
        ∃ t, exec (.fault n code) s = .next t ∧ (t.house.lane n).cycle = none ∧ (t.house.lane n).deck = .empty ∧
          (t.house.lane n).standing = noPins ∧ (t.house.lane n).delivery = l.delivery ∧
          t.house.calls = (h.raiseCall n .machineJam (some code)).calls) ∧
      (h.clock.timebase < y.deadline → Becomes s (.cycleDeadline n) h) ∧
      (l.mode = .closing → y.kind = .sweep →
        let dark := fun (u : House) =>
          (u.setLane n { l with mode := .dark, cycle := none, deck := .empty, standing := noPins }).setSlot (pairOf n)
            ((h.slot (pairOf n)).ordered n .powerOff)
        Becomes s c (dark h) ∧ Becomes s (.fault n code) (dark (h.raiseCall n .machineJam (some code))) ∧
        (y.deadline ≤ h.clock.timebase → Becomes s (.cycleDeadline n) (dark (h.raiseCall n .cycleTimeout)))) ∧
      (l.mode = .closing → l.delivery = none → y.kind ≠ .sweep →
        let sweeps := fun (u : House) (left : PinSet) =>
          (u.setLane n { l with
            standing := left, repeatOwed := false, deck := .cycling,
            cycle := some { kind := .sweep, commanded := some noPins, deadline := h.clock.timebase + l.options.cycleTimeout,
                            retry := false } }).setSlot (pairOf n) ((h.slot (pairOf n)).ordered n (.cycle .sweep noPins))
        Becomes s c (sweeps h (y.commanded.getD noPins)) ∧
        Becomes s (.fault n code) (sweeps (h.raiseCall n .machineJam (some code)) noPins) ∧
        (y.deadline ≤ h.clock.timebase →
          Becomes s (.cycleDeadline n) (sweeps (h.raiseCall n .cycleTimeout) noPins))) ∧
      (l.playing = false → l.mode ≠ .closing → Becomes s c h)

/-- READY, the warm-up deadline and PRESENT (R9, R15, R16, R19, R48, R134, R179): READY brings a WARMING lane up and orders
its first cycle, the deadline raises WAKE_FAIL once, and PRESENT writes the capabilities and, of a module that was absent,
removes LINK, gives each lane its orders by its mode, and empties the outstanding list. That the odd lane's orders stand
before the even lane's is the model's choice (log entry 37). That WARM_UP_DEADLINE sent before its time does nothing is log
entry 6, and that PRESENT as a command comes first in its answer log entry 7. -/
def Obligations.LanesComeUpAndModulesReturn : Prop :=
  (∀ (s : State) (n : Nat), s.house.quiet → s.house.runs = true → isLane n = true → s.house.roomFor n →
    let h := s.house
    let l := h.lane n
    let ready := Instr.ready n
    (l.mode ≠ .warming → Becomes s ready h ∧ Becomes s (.warmUpDeadline n) h) ∧
    (l.mode = .warming →
      (h.calls.find n .wakeFail = none → (h.unqueued n).has .wakeFail = false →
        let first := fun (kind : CycleKind) (pins : PinSet) =>
          (((h.setLane n { l with
            warmUp := none, mode := if l.causes = .none then .live else .held, deck := .cycling,
            cycle := some { kind := kind, commanded := some pins, deadline := h.clock.timebase + l.options.cycleTimeout,
                            retry := false } }).setSlot (pairOf n)
              ((h.slot (pairOf n)).ordered n (.cycle kind pins))).report n)
        (∀ pins, h.expectedDeck n = some (pins, false) → Becomes s ready (first (normalCycle .respot pins) pins)) ∧
        ((∀ pins, h.expectedDeck n ≠ some (pins, false)) → Becomes s ready (first .newRack fullRack))) ∧
      (∀ call, h.calls.find n .wakeFail = some call → h.nextUnqueued = none →
        ∃ t, exec ready s = .next t ∧ (t.house.lane n).playing = true ∧
          t.house.calls.queue = h.calls.queue.filter fun x => x.number ≠ call.number) ∧
      (l.warmUp = none → Becomes s (.warmUpDeadline n) h) ∧
      ∀ d, l.warmUp = some d →
        (h.clock.timebase < d → Becomes s (.warmUpDeadline n) h) ∧
        (d ≤ h.clock.timebase →
          Becomes s (.warmUpDeadline n) ((h.setLane n { l with warmUp := none }).raiseCall n .wakeFail)))) ∧
  ∀ (s : State) (p : Nat) (given : Capabilities), s.house.quiet → s.house.runs = true → isPair p = true →
    let h := s.house
    let m := h.slot p
    let a := 2 * p - 1
    let b := 2 * p
    (m.present = true → Becomes s (.present p given)
      (((h.setSlot p { m with capabilities := given }).setLane a { h.lane a with capabilities := given }).setLane b
        { h.lane b with capabilities := given })) ∧
    (m.present = false → m.orders = [] → (h.lane a).busy = false → (h.lane b).busy = false →
      h.linkFits a = true → h.linkFits b = true →
      ∃ t, exec (.present p given) s = .next t ∧ t.pending = s.pending ∧
        let told := fun (n : Nat) => match (h.lane n).mode with
          | .out | .dark => [OrderKind.powerOff]
          | .warming => [.powerOn]
          | .live | .held => if (h.lane n).causes.restart then [.powerOn] else [.powerOn, .resetMachine]
          | .closing => [.cycle .sweep noPins]
        t.house.slot p = { m with
          present := true, capabilities := given,
          orders := ((told a).map fun o => { even := false, kind := o }) ++ (told b).map fun o => { even := true, kind := o } } ∧
        (∀ n ∈ [a, b], (t.house.lane n).capabilities = given ∧ (t.house.lane n).flags = (h.lane n).flags ∧
          ((h.lane n).keepsCauses = true →
            (t.house.lane n).causes = { (h.lane n).causes with link := false }) ∧
          ((h.lane n).mode = .warming →
            (t.house.lane n).warmUp = some (h.clock.timebase + (h.lane n).options.warmUpTimeout * 10)) ∧
          ((h.lane n).playing = true → (t.house.lane n).cycle.map (·.kind) =
            if (h.lane n).causes.restart then none else some .resetMachine)) ∧
        t.house.ret p = { h.ret p with outstanding := [], deadline := none } ∧
        t.house.bowlers = h.bowlers ∧ t.house.squads = h.squads ∧ t.house.calls = h.calls)

/-! ### Scoring (chapter 3) -/

/-- A recorded ball is trimmed to the owed set and credited with the pins it took, or with none where it is a foul; it joins
the current frame after the balls already there, and no other ball changes (R51, R52). It is paid into the pending-bonus
list first (R53), and then leaves its frame as the frame's balls say: the frame goes on, or it ends with its kind, its score
and the entry it appends, and the current frame goes up (R56) or the game ends and the list is closed (R58). `earlyFrame`
and `tenthFrame` name how the balls leave a frame, by the tables of R54 and R55 and by R57. -/
def Obligations.RecordedBallsAreCreditedAndEndTheirFrames : Prop :=
  (∀ (sh : Sheet) (before after : PinSet) (foul : Bool) (speed : Option Half), 1 ≤ sh.current → sh.current ≤ 10 →
      let r := sh.record before after foul speed
      let f := sh.current
      let kept := before &&& sh.owed
      let left := after &&& kept
      let ball : BallRecord := { pinfall := if foul then 0 else pinCount (kept &&& ~~~left), before := kept, after := left,
                                 foul := foul, speed := speed }
      let balls := (sh.frame f).balls ++ [ball]
      let outcome := if f = 10 then tenthFrame balls else earlyFrame balls
      let paid := sh.bonuses.map fun e => { e with owed := e.owed - 1, bonus := e.bonus + ball.pinfall }
      let owing := paid.filter fun e => decide (e.owed ≠ 0)
      (r.1.frame f).balls = balls ∧
      (∀ g, g ≠ f → (r.1.frame g).balls = (sh.frame g).balls ∧ (r.1.frame g).kind = (sh.frame g).kind) ∧
      (outcome = .continues →
        r.2 = false ∧ r.1.current = f ∧ r.1.bonuses = owing ∧ (r.1.frame f).kind = (sh.frame f).kind) ∧
      (∀ kind score owed, outcome = .ends kind score owed → r.2 = true ∧ (r.1.frame f).kind = some kind ∧
        ((∀ e ∈ sh.bonuses, e.frame < f) → (r.1.frame f).score = score) ∧
        (f < 10 → r.1.current = f + 1 ∧ r.1.bonuses = owing ++
          match owed with
          | some n => [{ frame := f, owed := n, bonus := 0 }]
          | none => []) ∧
        (f = 10 → r.1.current = 10 ∧ r.1.bonuses = [])) ∧
      (sh.bonuses.Pairwise (fun a b => a.frame < b.frame) → (∀ e ∈ sh.bonuses, 1 ≤ e.frame ∧ e.frame < f) →
        (∀ e ∈ sh.bonuses, (e.owed ≤ 1 ∨ f = 10 ∧ r.2 = true) →
          (r.1.frame e.frame).score = some (10 + (e.bonus + ball.pinfall))) ∧
        (r.2 = false ∨ f < 10 → ∀ g, g ≠ f → (∀ e ∈ sh.bonuses, e.frame = g → 2 ≤ e.owed) →
          (r.1.frame g).score = (sh.frame g).score))) ∧
  (∀ a b : BallRecord,
      (a.foul = false → a.before = fullRack → a.after = noPins → earlyFrame [a] = .ends .strike none (some 2)) ∧
      (a.foul = false → a.before ≠ fullRack → a.after = noPins → earlyFrame [a] = .ends .openFrame (some a.pinfall) none) ∧
      (a.foul = true → a.before = noPins → earlyFrame [a] = .ends .openFrame (some 0) none) ∧
      (a.foul = false → a.after ≠ noPins → earlyFrame [a] = .continues) ∧
      (a.foul = true → a.before ≠ noPins → earlyFrame [a] = .continues) ∧
      (b.foul = false → b.before ≠ noPins → b.pinfall = pinCount b.before → earlyFrame [a, b] = .ends .spare none (some 1)) ∧
      (b.foul = true ∨ b.before = noPins ∨ b.pinfall ≠ pinCount b.before →
        earlyFrame [a, b] = .ends .openFrame (some (a.pinfall + b.pinfall)) none)) ∧
  (∀ a b c : BallRecord,
      let strike := a.foul = false ∧ a.before = fullRack ∧ a.after = noPins
      let spare := b.foul = false ∧ b.before ≠ noPins ∧ b.pinfall = pinCount b.before
      let dead := fun (x : BallRecord) => x.foul = true ∧ x.before = noPins
      let sum := a.pinfall + b.pinfall
      (a.foul = false → a.before ≠ fullRack → a.after = noPins →
        tenthFrame [a] = .ends .openFrame (some a.pinfall) none) ∧
      (dead a → tenthFrame [a] = .ends .openFrame (some a.pinfall) none) ∧
      ((strike ∨ a.foul = false ∧ a.after ≠ noPins ∨ a.foul = true ∧ a.before ≠ noPins) → tenthFrame [a] = .continues) ∧
      (strike → ¬ dead b → tenthFrame [a, b] = .continues) ∧
      (strike → dead b → tenthFrame [a, b] = .ends .strike (some sum) none) ∧
      (¬ strike → spare → tenthFrame [a, b] = .continues) ∧
      (¬ strike → ¬ spare → tenthFrame [a, b] = .ends .openFrame (some sum) none) ∧
      (strike → tenthFrame [a, b, c] = .ends .strike (some (sum + c.pinfall)) none) ∧
      (¬ strike → spare → tenthFrame [a, b, c] = .ends .spare (some (sum + c.pinfall)) none))

/-- Whatever balls are recorded, the pending-bonus list holds at most two entries, of frames among 1 to 9 in ascending
order, and each still owes a ball; once the game has ended the list is empty (R53, R58). After every recorded ball each
running total is the sum of the frame scores up to its frame, present exactly while they all are; every frame score lies in
0 to 30, and no game total exceeds 300 (R59). -/
def Obligations.BonusesAndRunningTotalsOfEveryGame : Prop :=
  (∀ balls : List BallRecord,
      let sh := recordGame balls
      sh.bonuses.length ≤ 2 ∧ sh.bonuses.Pairwise (fun a b => a.frame < b.frame) ∧
        (∀ e ∈ sh.bonuses, 1 ≤ e.frame ∧ e.frame ≤ 9 ∧ 1 ≤ e.owed ∧ e.owed ≤ 2) ∧
        (sh.over = true → sh.bonuses = [])) ∧
  (∀ (balls : List BallRecord) (f : Nat), 1 ≤ f → f ≤ 10 →
      let sh := recordGame balls
      (sh.frame f).running =
          (if (numbers f).all fun g => (sh.frame g).score.isSome then
            some ((numbers f).foldl (fun sum g => sum + ((sh.frame g).score).getD 0) 0) else none) ∧
        (∀ x, (sh.frame f).score = some x → x ≤ 30) ∧ sh.gameTotal ≤ 300)

/-- A bowler's scores are a function of the balls recorded: recording again the balls that a game's sheet holds, from an
empty game, gives the sheet back (R63). -/
def Obligations.RescoringARecordedGameGivesItBack : Prop :=
  ∀ balls : List BallRecord, (recordGame balls).rescore none = some (recordGame balls)

/-! ### Squads, rotation and games (chapters 4 and 5) -/

/-- FORM SQUAD (R77): the free squad record and the free bowler records of the lowest numbers are taken, and set as R77 and
R50 say; on a run-out tab the squad is STOPPED and its lane takes ALLOWANCE. END SQUAD retires the squad with its bowler
records and clears its lane's squad field; with a delivery in flight on the lane it is refused IN_FLIGHT (R82, R73). A partner in pair play takes OPEN_PLAY and goes on
by its state: waiting at the end of a frame it is stopped on a run-out tab, and otherwise begins the next frame (R93). -/
def Obligations.SquadsAreFormedAndRetired : Prop :=
  (∀ (s : State) (hd : Header) (n q : Nat) (entries : List BowlerEntry) (auto : Option Bool) (rule : Option HandicapRule),
      s.house.quiet → s.edits hd n → isLane n = true → (s.house.lane n).keepsCauses = true → (s.house.lane n).squad = none →
      1 ≤ entries.length → entries.length ≤ 8 → (entries.all fun e => nameTagFits e.nameTag) = true →
      s.house.freeSquad = some q →
      (s.house.freeBowlers < entries.length → Refuses s (.formSquad hd n entries auto rule) hd .full) ∧
      (entries.length ≤ s.house.freeBowlers → ∃ t, exec (.formSquad hd n entries auto rule) s = .next t ∧
        t.pending = s.pending ∧
        let ks := ((numbers 384).filter fun k => (s.house.bowler k).isNone).take entries.length
        let stopped := s.house.runOutOn n
        t.house.squad q = some
          { lane := n, order := ks, upPosition := none, frame := 1, mode := .openPlay, partner := none, side := none,
            pairGame := 0, autoNext := auto.getD false,
            rule := (rule.map fun r => { basis := min r.basis 300, percent := min r.percent 100, cap := min r.cap 300 }).getD
              { basis := 0, percent := 0, cap := 300 },
            state := if stopped then .stopped else .forming,
            stopPoint := if stopped then some (.atStart .forming) else none } ∧
        (∀ p, p ≠ q → t.house.squad p = s.house.squad p) ∧
        (t.house.lane n).squad = some q ∧
        (t.house.lane n).causes.allowance = ((s.house.lane n).causes.allowance || stopped) ∧
        (∀ j, j < entries.length → (ks[j]?).map t.house.bowler = (entries[j]?).map fun e => some
          { squad := q, nameTag := e.nameTag, state := .waiting, inGame := .no, average := min e.average 300, gameNumber := 0,
            sheet := .blank, totals := [] }) ∧
        (∀ k, k ∉ ks → t.house.bowler k = s.house.bowler k) ∧
        t.house.port.answers = s.house.port.answers ++ [{
          sequence := hd.sequence,
          result := if (entries.any fun e => decide (300 < e.average)) ||
            rule.any (fun r => decide (300 < r.basis) || decide (100 < r.percent) || decide (300 < r.cap)) then .clamped
            else .done,
          body := .squadFormed q ks }])) ∧
  (∀ (s : State) (hd : Header) (q : Nat) (r : SquadRecord), s.house.quiet → s.edits hd r.lane → s.house.squad q = some r →
      isLane r.lane = true →
      ((s.house.lane r.lane).delivery.isSome = true → Refuses s (.endSquad hd q) hd .inFlight) ∧
      ((s.house.lane r.lane).delivery = none → ∃ t, exec (.endSquad hd q) s = .next t ∧ t.pending = s.pending ∧
        t.house.port.answers = s.house.port.answers ++ [{ sequence := hd.sequence, result := .done, body := .empty }] ∧
        t.house.squad q = none ∧ (t.house.lane r.lane).squad = none ∧ (∀ k ∈ r.order, t.house.bowler k = none) ∧
        t.house.plans = s.house.plans ∧ t.house.clock = s.house.clock ∧
        (r.mode = .openPlay → (∀ p, p ≠ q → t.house.squad p = s.house.squad p) ∧
          ∀ k, k ∉ r.order → t.house.bowler k = s.house.bowler k) ∧
        (r.mode = .pairPlay → ∀ p, r.partner = some p → p ≠ q → ∀ rp, s.house.squad p = some rp →
          let left := { rp with mode := .openPlay, partner := none, side := none, pairGame := 0 }
          (rp.state ≠ .frameWait → t.house.squad p = some left) ∧
          (rp.state = .frameWait → rp.frame < 10 → s.house.runOutOn rp.lane = true →
            t.house.squad p = some { left with
              state := .stopped, stopPoint := some (.atFrame rp.frame), upPosition := none }) ∧
          (rp.state = .frameWait → rp.frame < 10 → s.house.runOutOn rp.lane = false →
            ∀ place, ∀ j, rp.order[place]? = some j → j ∉ r.order → s.house.toBowl (rp.frame + 1) j = true →
            (∀ i, i < place → ∀ m, rp.order[i]? = some m → s.house.toBowl (rp.frame + 1) m = false) →
            t.house.squad p = some { left with
              frame := rp.frame + 1, state := .playing, stopPoint := none, upPosition := some place } ∧
            t.house.bowler j = (s.house.bowler j).map fun b => { b with state := .up }))))

/-- ADD BOWLER, SET ORDER, SET BOWLER and SET SQUAD write what they name and nothing else (R78, R70, R80, R50); in PAIR_PLAY a
new auto next game value is written to both squads. The order of the checks of ADD BOWLER is log entry 23; that a list that
does not hold every bowler once is refused OUT_OF_RANGE also with a delivery in flight (R72, R78) is log entry 5. -/
def Obligations.SquadAndBowlerEditsWriteWhatTheyName : Prop :=
  ∀ (s : State) (hd : Header) (q : Nat) (r : SquadRecord), s.house.quiet → s.edits hd r.lane → s.house.squad q = some r →
    let h := s.house
    (∀ (e : BowlerEntry) (k : Nat), r.order.length < 8 → nameTagFits e.nameTag = true → h.freeBowler = some k →
      Answers s (.addBowler hd q e) hd
        ((h.setBowler k (some
          { squad := q, nameTag := e.nameTag, state := if r.inProgress then .done else .waiting, inGame := .no,
            average := min e.average 300, gameNumber := 0, sheet := .blank, totals := [] })).setSquad q
              (some { r with order := r.order ++ [k] }))
        (if 300 < e.average then .clamped else .done) (.bowlerAdded k)) ∧
    (∀ e : BowlerEntry, 8 ≤ r.order.length → Refuses s (.addBowler hd q e) hd .full) ∧
    (∀ order : List Nat, r.order.Nodup → order.Perm r.order → (h.lane r.lane).delivery = none →
      Answers s (.setOrder hd q order) hd
        (h.setSquad q (some { r with
          order := order, upPosition := (r.upPosition.bind fun p => r.order[p]?).bind fun k => order.findIdx? (· == k) }))
        .done .empty) ∧
    (∀ order : List Nat, (∃ k ∈ r.order, k ∉ order) → Refuses s (.setOrder hd q order) hd .outOfRange) ∧
    (∀ order : List Nat, order.length ≠ r.order.length → Refuses s (.setOrder hd q order) hd .outOfRange) ∧
    (∀ (k : Nat) (b : BowlerRecord) (tag : Option (List Byte)) (average : Option Nat), h.bowler k = some b → b.squad = q →
      tag.all nameTagFits = true →
      Answers s (.setBowler hd k tag average) hd
        (h.setBowler k (some { b with nameTag := tag.getD b.nameTag, average := (average.map fun v => min v 300).getD b.average }))
        (if average.any fun v => decide (300 < v) then .clamped else .done) .empty) ∧
    ∀ (auto : Option Bool) (e : HandicapEdit),
      let written := { r with
        autoNext := auto.getD r.autoNext,
        rule := { basis := (e.basis.map fun v => min v 300).getD r.rule.basis,
                  percent := (e.percent.map fun v => min v 100).getD r.rule.percent,
                  cap := (e.cap.map fun v => min v 300).getD r.rule.cap } }
      let answer := if e.basis.any (fun v => decide (300 < v)) || e.percent.any (fun v => decide (100 < v)) ||
        e.cap.any (fun v => decide (300 < v)) then Verdict.clamped else .done
      (r.mode = .openPlay → Answers s (.setSquad hd q auto e) hd (h.setSquad q (some written)) answer .empty) ∧
      (r.mode = .pairPlay → ∀ p, r.partner = some p → p ≠ q → ∀ rp, h.squad p = some rp →
        Answers s (.setSquad hd q auto e) hd
          ((h.setSquad q (some written)).setSquad p (some { rp with autoNext := auto.getD rp.autoNext })) answer .empty)

/-- MARK AWAY, MARK BACK and REMOVE BOWLER of a bowler that is not UP change that record alone, and of the UP bowler at the
start of a frame they pass the rotation to the next bowler to bowl it, or to the next frame where there is none (R65, R71,
R79, R83, R84). Where an edit leaves every present bowler of an open-play squad DONE, its game ends (R65, R71, R85); of a
squad STOPPED at AT_FRAME this is log entry 33, and that in game LEFT stays LEFT log entry 32. An edit that ends the frame
is refused IN_FLIGHT where the deck declines the need (R79), and so, with a delivery in flight, is one that rearranges the
order or that removes or marks away the UP bowler (R72). -/
def Obligations.AwayBackAndRemovalPassTheRotation : Prop :=
  (∀ (s : State) (hd : Header) (q k : Nat) (r : SquadRecord) (b : BowlerRecord), s.house.quiet → s.edits hd r.lane →
      s.house.squad q = some r → s.house.bowler k = some b → b.squad = q →
      let h := s.house
      let l := h.lane r.lane
      let out := { b with state := .absent, inGame := if b.inGame = .yes then .left else b.inGame }
      let rest := r.order.filter (· ≠ k)
      let remains := r.mode = .pairPlay ∨ r.inProgress = false ∨
        ∃ j ∈ r.order, j ≠ k ∧ h.present j = true ∧ h.bowlerIn .done j = false
      let atStart := b.state = .up ∧ l.delivery = none ∧ b.sheet.midFrame = false
      let busy := l.deck = .delivery ∨ l.deck = .cycling
      (b.state = .waiting → remains → Answers s (.markAway hd k) hd (h.setBowler k (some out)) .done .empty) ∧
      (b.state = .done → remains →
        Answers s (.markAway hd k) hd (h.setBowler k (some { b with state := .absent })) .done .empty) ∧
      (b.state = .absent → Answers s (.markAway hd k) hd h .done .empty) ∧
      (b.state = .absent → remains → Answers s (.markBack hd k) hd
        (h.setBowler k (some { b with state := if r.inProgress then .done else .waiting })) .done .empty) ∧
      (b.state ≠ .absent → Answers s (.markBack hd k) hd h .done .empty) ∧
      (b.state ≠ .up → 2 ≤ r.order.length → r.order.Nodup → k ∈ r.order → remains → Answers s (.removeBowler hd k) hd
        ((h.setBowler k none).setSquad q (some { r with
          order := rest,
          upPosition := (r.upPosition.bind fun p => r.order[p]?).bind fun j => rest.findIdx? (· == j) })) .done .empty) ∧
      (r.order.length ≤ 1 → Refuses s (.removeBowler hd k) hd .wrongState) ∧
      (b.state = .up → l.delivery = none → b.sheet.midFrame = true →
        Refuses s (.markAway hd k) hd .wrongState ∧ (2 ≤ r.order.length → Refuses s (.removeBowler hd k) hd .wrongState)) ∧
      (∀ place, atStart → ∀ j, r.order[place]? = some j → j ≠ k → ∀ c, h.bowler j = some c →
        h.toBowl r.frame j = true → (∀ i, i < place → ∀ m, r.order[i]? = some m → m = k ∨ h.toBowl r.frame m = false) →
        Answers s (.markAway hd k) hd
          (((h.setBowler k (some out)).setBowler j (some { c with state := .up })).setSquad q
            (some { r with upPosition := some place })) .done .empty) ∧
      (∀ place, atStart → 2 ≤ r.order.length → ∀ j, rest[place]? = some j → ∀ c, h.bowler j = some c →
        h.toBowl r.frame j = true → (∀ i, i < place → ∀ m, rest[i]? = some m → h.toBowl r.frame m = false) →
        Answers s (.removeBowler hd k) hd
          (((h.setBowler k none).setBowler j (some { c with state := .up })).setSquad q
            (some { r with order := rest, upPosition := some place })) .done .empty) ∧
      (atStart → busy → (∀ j ∈ rest, h.toBowl r.frame j = false) →
        Refuses s (.markAway hd k) hd .inFlight ∧
          (2 ≤ r.order.length → Refuses s (.removeBowler hd k) hd .inFlight)) ∧
      (∀ place, atStart → ¬busy → r.mode = .openPlay → (∀ j ∈ rest, h.toBowl r.frame j = false) →
        r.frame < 10 → h.runOutOn r.lane = false → (h.lane (otherLane r.lane)).squad ≠ some q →
        (∀ j, r.order[place]? = some j → ∀ c, h.bowler j = some c → h.toBowl (r.frame + 1) j = true → j ≠ k →
          (∀ i, i < place → ∀ m, r.order[i]? = some m → m = k ∨ h.toBowl (r.frame + 1) m = false) →
          AnswersSettled s (.markAway hd k) hd
            ((((h.setBowler k (some out)).setBowler j (some { c with state := .up })).setSquad q (some { r with
              frame := r.frame + 1, state := .playing, stopPoint := none, upPosition := some place })).handNeed r.lane
                .newRack fullRack) .done .empty) ∧
        (2 ≤ r.order.length → ∀ j, rest[place]? = some j → ∀ c, h.bowler j = some c → h.toBowl (r.frame + 1) j = true →
          (∀ i, i < place → ∀ m, rest[i]? = some m → h.toBowl (r.frame + 1) m = false) →
          AnswersSettled s (.removeBowler hd k) hd
            ((((h.setBowler k none).setBowler j (some { c with state := .up })).setSquad q (some { r with
              order := rest, frame := r.frame + 1, state := .playing, stopPoint := none, upPosition := some place })).handNeed
                r.lane .newRack fullRack) .done .empty)) ∧
      let ends := fun (c : Instr) (after : Option BowlerRecord) (order : List Nat) =>
        (busy → Refuses s c hd .inFlight) ∧
        (¬busy → ∃ t, exec c s = .next t ∧ t.pending = s.pending ∧
          t.house.port.answers = h.port.answers ++ [{ sequence := hd.sequence, result := .done, body := .empty }] ∧
          t.house.squad q = some { r with
            order := order, upPosition := none, state := if h.runOutOn r.lane then .stopped else .gameDone,
            stopPoint := if h.runOutOn r.lane then some (.atStart .gameDone) else none } ∧
          t.house.bowler k = after.map BowlerRecord.totalled ∧
          (∀ j ∈ rest, ∀ x, h.bowler j = some x → t.house.bowler j = some x.totalled) ∧
          (isLane r.lane = true → l.keepsCauses = true → (h.runOutOn r.lane = true → (t.house.lane r.lane).causes.allowance = true) ∧
            (h.runOutOn r.lane = false → r.state = .stopped → b.state ≠ .up → (t.house.lane r.lane).causes.allowance = false)) ∧
          ((l.deck = .idle ∨ l.deck = .ready ∧ l.standing ≠ noPins) → isLane r.lane = true → h.roomFor r.lane →
            (h.lane (otherLane r.lane)).squad ≠ some q →
            (t.house.lane r.lane).cycle.map (·.kind) = some .sweep))
      r.mode = .openPlay → r.autoNext = false → r.order.Nodup → k ∈ r.order →
      (∀ j ∈ rest, h.present j = true → h.bowlerIn .done j = true) →
      let stopped := r.state = .stopped ∧ ∃ f ∈ numbers 9, r.stopPoint = some (.atFrame f)
      ((atStart ∨ b.state = .waiting ∧ stopped) → ends (.markAway hd k) (some out) r.order) ∧
      ((atStart ∨ b.state ≠ .up ∧ stopped) → 2 ≤ r.order.length → ends (.removeBowler hd k) none rest) ∧
      (b.state = .absent → stopped → ends (.markBack hd k) (some { b with state := .done }) r.order)) ∧
  (∀ (s : State) (hd : Header) (q k : Nat) (r : SquadRecord) (b : BowlerRecord), s.house.quiet → s.edits hd r.lane →
      s.house.squad q = some r → s.house.bowler k = some b → b.squad = q → (s.house.lane r.lane).delivery.isSome = true →
      (∀ order : List Nat, r.order.Nodup → order.Perm r.order → Refuses s (.setOrder hd q order) hd .inFlight) ∧
      (b.state = .up → Refuses s (.markAway hd k) hd .inFlight) ∧
      (b.state = .up → 2 ≤ r.order.length → Refuses s (.removeBowler hd k) hd .inFlight))

/-- START GAME on a playing lane (R86, R87, R64, R169), in open play and in pair play: the tab is charged for the present
bowlers, of both squads in pair play, with the games, the charge of a GAME plan at the price in force and the warning of
GAMES; each present bowler begins an empty game, the first of a squad is UP, the squads play frame 1, and an
IDLE deck is racked. A charge that is
refused stops the squads at AT_START and changes no bowler and no tab count. In pair play a partner with nobody present is
carried, and waits at frame 1 (R92). -/
def Obligations.StartGameChargesAndStarts : Prop :=
  (∀ (s : State) (hd : Header) (n : Nat), s.house.quiet → s.takes hd →
    (hd.origin = .desk ∨ hd.origin = .console (pairOf n)) →
    isLane n = true → (s.house.lane n).playing = true → (s.house.lane n).causesFit = true →
    ∀ q, (s.house.lane n).squad = some q → ∀ r, s.house.squad q = some r →
    r.lane = n → r.mode = .openPlay → r.inProgress = false → r.order.Nodup →
    (∀ k ∈ r.order, (s.house.bowler k).isSome = true) → ∀ first, r.order.findIdx? s.house.present = some first →
    (s.house.lane n).deck ≠ .delivery → (s.house.lane n).deck ≠ .cycling →
    ∀ a, (s.house.lane n).tab = some a → ∀ rt, s.house.tab a = some rt → rt.gameCharges.amount ≤ 9999999 →
    let k := (r.order.filter s.house.present).length
    (rt.startRefused k = false → ∃ t, exec (.startGame hd n) s = .next t ∧ t.pending = s.pending ∧
      t.house.port.answers = s.house.port.answers ++ [{ sequence := hd.sequence, result := .done, body := .empty }] ∧
      t.house.tabOf a = some { s.house.startCharged rt k with slots := [] } ∧
      t.house.squad q = some { r with frame := 1, state := .playing, stopPoint := none, upPosition := some first } ∧
      ((s.house.lane n).deck = .ready → (s.house.lane n).standing = fullRack → t.house.machine = s.house.machine) ∧
      ((s.house.lane n).deck = .idle → s.house.roomFor n → (t.house.lane n).cycle.map (·.kind) = some .newRack) ∧
      ∀ j ∈ r.order, ∀ b, s.house.bowler j = some b →
        t.house.bowler j = some (b.begun (decide (r.order[first]? = some j)))) ∧
    (rt.startRefused k = true → ∃ t, exec (.startGame hd n) s = .next t ∧ t.pending = s.pending ∧
      t.house.port.answers =
        s.house.port.answers ++ [{ sequence := hd.sequence, result := .refused .allowance, body := .empty }] ∧
      t.house.squad q = some { r with
        state := .stopped, stopPoint := some (.atStart r.returnState), upPosition := none } ∧
      (t.house.lane n).causes.allowance = true ∧ (t.house.lane n).mode = .held ∧
      t.house.bowlers = s.house.bowlers ∧
      t.house.tabOf a = s.house.tabOf a)) ∧
  (∀ (s : State) (hd : Header) (n : Nat), s.house.quiet → s.takes hd →
    (hd.origin = .desk ∨ hd.origin = .console (pairOf n)) →
    isLane n = true → (s.house.lane n).playing = true →
    ∀ q, (s.house.lane n).squad = some q → ∀ r, s.house.squad q = some r →
    r.lane = n → r.mode = .pairPlay → ∀ p, r.partner = some p → p ≠ q → ∀ rp, s.house.squad p = some rp → rp.mode = .pairPlay →
    rp.partner = some q → isLane rp.lane = true → rp.lane ≠ n →
    r.inProgress = false → rp.inProgress = false → r.order.Nodup → rp.order.Nodup → (∀ k ∈ r.order, k ∉ rp.order) →
    (∀ k ∈ r.order ++ rp.order, (s.house.bowler k).isSome = true) → ∀ first, r.order.findIdx? s.house.present = some first →
    (∀ m ∈ [n, rp.lane], (s.house.lane m).deck ≠ .delivery ∧ (s.house.lane m).deck ≠ .cycling) →
    ∀ a, (s.house.lane n).tab = some a → (s.house.lane rp.lane).tab = some a → ∀ rt, s.house.tab a = some rt →
    rt.gameCharges.amount ≤ 9999999 →
    let k := (r.order.filter s.house.present).length + (rp.order.filter s.house.present).length
    let second := rp.order.findIdx? s.house.present
    (rt.startRefused k = false → ∃ t, exec (.startGame hd n) s = .next t ∧ t.pending = s.pending ∧
      t.house.port.answers = s.house.port.answers ++ [{ sequence := hd.sequence, result := .done, body := .empty }] ∧
      t.house.tabOf a = some { s.house.startCharged rt k with slots := [] } ∧
      t.house.squad q = some { r with
        frame := 1, state := .playing, stopPoint := none, upPosition := some first, pairGame := min (r.pairGame + 1) 255 } ∧
      t.house.squad p = some { rp with
        frame := 1, state := if second = none then .frameWait else .playing, stopPoint := none, upPosition := second,
        pairGame := min (rp.pairGame + 1) 255 } ∧
      (∀ m ∈ [n, rp.lane], (s.house.lane m).deck = .idle → s.house.modulePresent m = true →
        (s.house.slot (pairOf m)).orders.length ≤ 6 → (t.house.lane m).cycle.map (·.kind) = some .newRack) ∧
      (∀ j ∈ r.order, ∀ b, s.house.bowler j = some b →
        t.house.bowler j = some (b.begun (decide (r.order[first]? = some j)))) ∧
      ∀ j ∈ rp.order, ∀ b, s.house.bowler j = some b →
        t.house.bowler j = some (b.begun (decide ((second.bind fun i => rp.order[i]?) = some j)))) ∧
    (rt.startRefused k = true → ∃ t, exec (.startGame hd n) s = .next t ∧ t.pending = s.pending ∧
      t.house.port.answers =
        s.house.port.answers ++ [{ sequence := hd.sequence, result := .refused .allowance, body := .empty }] ∧
      t.house.squad q = some { r with
        state := .stopped, stopPoint := some (.atStart r.returnState), upPosition := none } ∧
      t.house.squad p = some { rp with
        state := .stopped, stopPoint := some (.atStart rp.returnState), upPosition := none } ∧
      (t.house.lane n).causes.allowance = true ∧
      ((s.house.lane rp.lane).keepsCauses = true → (t.house.lane rp.lane).causes.allowance = true) ∧
      t.house.bowlers = s.house.bowlers ∧
      t.house.tabOf a = s.house.tabOf a))

/-- PAIR PLAY binds the squads of a pair and END PAIR PLAY unbinds them; neither moves a squad (R89, R93). -/
def Obligations.PairPlayBindsAndUnbinds : Prop :=
  ∀ (s : State) (hd : Header) (p qa qb : Nat) (ra rb : SquadRecord), s.house.quiet → s.desk hd → isPair p = true →
    let h := s.house
    let a := h.lane (2 * p - 1)
    let b := h.lane (2 * p)
    a.squad = some qa → b.squad = some qb → h.squad qa = some ra → h.squad qb = some rb →
    (∀ auto : Option Bool, a.mode ≠ .out → b.mode ≠ .out → a.tab.isSome = true → a.tab = b.tab →
      ra.mode = .openPlay → rb.mode = .openPlay → ra.inProgress = false → rb.inProgress = false →
      Answers s (.pairPlay hd p auto) hd
        ((h.setSquad qa (some { ra with
            mode := .pairPlay, partner := some qb, side := some .a, pairGame := 0, autoNext := auto.getD ra.autoNext })).setSquad
          qb (some { rb with
            mode := .pairPlay, partner := some qa, side := some .b, pairGame := 0, autoNext := auto.getD ra.autoNext }))
        .done .empty) ∧
    (∀ auto : Option Bool, (a.mode = .out ∨ b.mode = .out ∨ a.tab ≠ b.tab ∨ ra.mode = .pairPlay ∨ rb.mode = .pairPlay ∨
        ra.inProgress = true ∨ rb.inProgress = true) → Refuses s (.pairPlay hd p auto) hd .wrongState) ∧
    (ra.mode = .pairPlay → ra.partner = some qb → rb.mode = .pairPlay → rb.partner = some qa →
      (ra.inProgress = false → rb.inProgress = false → Answers s (.endPairPlay hd p) hd
        ((h.setSquad qa (some { ra with mode := .openPlay, partner := none, side := none, pairGame := 0 })).setSquad qb
          (some { rb with mode := .openPlay, partner := none, side := none, pairGame := 0 })) .done .empty) ∧
      (ra.inProgress = true ∨ rb.inProgress = true → Refuses s (.endPairPlay hd p) hd .wrongState)) ∧
    (ra.mode = .openPlay → Refuses s (.endPairPlay hd p) hd .noRecord)

/-- The end of a squad frame in open play, and of a game (R83 to R85, R88, R94): a ball that ends its bowler's frame passes
the rotation and is followed by NEW_RACK while a game goes on and by SWEEP where none does (R60). The rotation makes the next
bowler UP, or begins the next frame, or stops the squad on a run-out tab, or ends the game: its totals are appended
(R66, R67), and with auto next game the next game is charged and started, or the squad is stopped where it is refused. -/
def Obligations.SquadFramesAndGamesEnd : Prop :=
  (∀ (h : House) (n : Nat) (after : PinSet), isLane n = true → ∀ d, (h.lane n).delivery = some d →
    ∀ b, h.bowler d.bowler = some b → ∀ r, h.squad b.squad = some r →
    let l := h.lane n
    let recorded := b.sheet.record d.before after d.foul d.speed
    recorded.2 = true →
    let u := (h.setLane n { l with delivery := none, standing := after }).setBowler d.bowler
      (some { b with sheet := recorded.1, state := if b.sheet.current = 10 then .done else .waiting })
    let w := (u.setSquad b.squad (some { r with upPosition := none })).passOn n b.squad true
    let t := h.completeDelivery n after
    t.bowlers = w.bowlers ∧ t.squads = w.squads ∧ t.tabs = w.tabs ∧ (t.lane n).delivery = none ∧
      (t.lane n).deck = .cycling ∧
      (t.lane n).cycle = some
        (if l.recoveryOwed then
          { kind := .resetMachine, commanded := none, deadline := h.clock.timebase + l.options.cycleTimeout, retry := false }
        else if w.gameInProgress b.squad then
          { kind := .newRack, commanded := some fullRack, deadline := h.clock.timebase + l.options.cycleTimeout,
            retry := false }
        else
          { kind := .sweep, commanded := some noPins, deadline := h.clock.timebase + l.options.cycleTimeout,
            retry := false })) ∧
  (∀ (h : House) (home q : Nat) (bowled : Bool), ∀ r, h.squad q = some r → r.mode = .openPlay →
    let t := h.passOn home q bowled
    let first := fun (f place : Nat) =>
      ∀ i, i < place → ∀ m, r.order[i]? = some m → h.toBowl f m = false
    (∀ place, ∀ j, r.order[place]? = some j → ∀ c, h.bowler j = some c → h.toBowl r.frame j = true → first r.frame place →
      t = (h.setBowler j (some { c with state := .up })).setSquad q (some { r with upPosition := some place })) ∧
    ((∀ j ∈ r.order, h.toBowl r.frame j = false) →
      (r.frame < 10 → h.runOutOn r.lane = false → ∀ place, ∀ j, r.order[place]? = some j → ∀ c, h.bowler j = some c →
        h.toBowl (r.frame + 1) j = true → first (r.frame + 1) place →
        t = (h.setBowler j (some { c with state := .up })).setSquad q (some { r with
          frame := r.frame + 1, state := .playing, stopPoint := none, upPosition := some place })) ∧
      (r.frame < 10 → h.runOutOn r.lane = true → (∃ j ∈ r.order, h.present j = true ∧ h.bowlerIn .done j = false) →
        t = (h.setSquad q (some { r with
          state := .stopped, stopPoint := some (.atFrame r.frame), upPosition := none })).addCause r.lane .allowance) ∧
      (r.order.Nodup → (10 ≤ r.frame ∨ ∀ j ∈ r.order, h.present j = true → h.bowlerIn .done j = true) →
        let k := (r.order.filter h.present).length
        let stopped := { r with state := .stopped, stopPoint := some (.atStart .gameDone), upPosition := none }
        ((r.autoNext = false ∨ k = 0) →
          (h.runOutOn r.lane = false →
            t.squad q = some { r with state := .gameDone, stopPoint := none, upPosition := none } ∧ t.tabs = h.tabs ∧
              t.lanes = h.lanes) ∧
          (h.runOutOn r.lane = true → t.squad q = some stopped) ∧
          t.machine = h.machine ∧
          ∀ j ∈ r.order, t.bowler j = (h.bowler j).map BowlerRecord.totalled) ∧
        (r.autoNext = true → 1 ≤ k → ∀ a, (h.lane r.lane).tab = some a → ∀ rt, h.tab a = some rt →
          rt.gameCharges.amount ≤ 9999999 →
          (rt.startRefused k = true → t.squad q = some stopped ∧ t.tabOf a = h.tabOf a ∧ t.machine = h.machine ∧
            (isLane r.lane = true → (h.lane r.lane).keepsCauses = true → (t.lane r.lane).causes.allowance = true) ∧
            ∀ j ∈ r.order, t.bowler j = (h.bowler j).map BowlerRecord.totalled) ∧
          (rt.startRefused k = false → ∀ place, r.order.findIdx? h.present = some place →
            t.squad q = some { r with frame := 1, state := .playing, stopPoint := none, upPosition := some place } ∧
            t.tabOf a = some { h.startCharged rt k with slots := [] } ∧ (home = r.lane → t.machine = h.machine) ∧
            ∀ j ∈ r.order, t.bowler j = (h.bowler j).map fun b => b.totalled.begun (decide (r.order[place]? = some j)))))))

/-- The end of a squad frame in pair play (R84, R90 to R92, R94, R85, R88): when a squad ends squad frame f below 10 it waits
for its partner; where the partner waits at f the two change lanes, both take frame f + 1, and the first bowler to bowl it
is UP in each; on a run-out tab both are stopped instead. At frame 10 its game ends, and with it that of a carried partner
waiting there; the second game end of a pair charges and starts the next game of both. A carried squad waits at frame 10
for a partner still bowling it (log entry 14). -/
def Obligations.PairsWaitSwapStopAndEndTheirGames : Prop :=
  (∀ (h : House) (home q : Nat) (bowled : Bool), ∀ rq, h.squad q = some rq → rq.mode = .pairPlay →
    ∀ p, rq.partner = some p → q ≠ p → ∀ rp, h.squad p = some rp → rq.frame < 10 → h.nextUp rq = none → h.runOutOn rq.lane = false →
    rp.state = .frameWait → rp.frame = rq.frame → isLane rq.lane = true → isLane rp.lane = true → rq.lane ≠ rp.lane →
    ∀ i, h.nextUp { rq with frame := rq.frame + 1 } = some i → ∀ j, h.nextUp { rp with frame := rp.frame + 1 } = some j →
    ∀ k, rq.order[i]? = some k → ∀ m, rp.order[j]? = some m → m ∉ rq.order → k ∉ rp.order →
    ∀ b, h.bowler k = some b → ∀ c, h.bowler m = some c →
    let t := h.passOn home q bowled
    t.squad q = some { rq with
      lane := rp.lane, frame := rq.frame + 1, state := .playing, stopPoint := none, upPosition := some i } ∧
    t.squad p = some { rp with
      lane := rq.lane, frame := rq.frame + 1, state := .playing, stopPoint := none, upPosition := some j } ∧
    (t.lane rq.lane).squad = some p ∧ (t.lane rp.lane).squad = some q ∧
    t.bowler k = some { b with state := .up } ∧ t.bowler m = some { c with state := .up } ∧
    (∀ n, (t.lane n).mode = (h.lane n).mode ∧ (t.lane n).causes = (h.lane n).causes ∧ (t.lane n).deck = (h.lane n).deck) ∧
    t.machine = h.machine) ∧
  (∀ (h : House) (home q : Nat) (bowled : Bool), ∀ rq, h.squad q = some rq → rq.mode = .pairPlay →
    ∀ p, rq.partner = some p → q ≠ p → ∀ rp, h.squad p = some rp → (∀ j ∈ rq.order, h.toBowl rq.frame j = false) →
    let t := h.passOn home q bowled
    let waits := rp.state = .frameWait ∧ rp.frame = rq.frame
    let stopped := fun (r : SquadRecord) (point : StopPoint) =>
      { r with state := .stopped, stopPoint := some point, upPosition := none }
    let held := fun (n : Nat) =>
      isLane n = true → (h.lane n).keepsCauses = true → (t.lane n).causes.allowance = true
    let ended := { rq with state := .gameDone, stopPoint := none, upPosition := none }
    (rq.frame < 10 →
      (h.runOutOn rq.lane = false → ¬waits →
        t = h.setSquad q (some { rq with state := .frameWait, stopPoint := none, upPosition := none })) ∧
      (h.runOutOn rq.lane = true →
        t.squad q = some (stopped rq (.atFrame rq.frame)) ∧ held rq.lane ∧
        (waits → t.squad p = some (stopped rp (.atFrame rq.frame)) ∧ held rp.lane) ∧
        (¬waits → t.squad p = some rp) ∧ t.bowlers = h.bowlers ∧ t.machine = h.machine)) ∧
    (10 ≤ rq.frame → bowled = false → rp.state = .playing →
      t = h.setSquad q (some { rq with state := .frameWait, stopPoint := none, upPosition := none })) ∧
    (10 ≤ rq.frame → bowled = true → rq.order.Nodup → rp.order.Nodup → (∀ k ∈ rq.order, k ∉ rp.order) →
      ((rp.state = .playing ∨ rp.state = .frameWait ∧ rp.frame ≠ 10) →
        t.squad q = some (if h.runOutOn rq.lane then stopped rq (.atStart .gameDone) else ended) ∧
        (h.runOutOn rq.lane = true → held rq.lane) ∧ t.squad p = some rp ∧ t.machine = h.machine ∧
        (∀ j ∈ rq.order, t.bowler j = (h.bowler j).map BowlerRecord.totalled) ∧
        ∀ j ∈ rp.order, t.bowler j = h.bowler j) ∧
      ((rp.state = .gameDone ∧ rp.stopPoint = none ∨ rp.state = .frameWait ∧ rp.frame = 10) → rp.mode = .pairPlay → rp.partner = some q →
        rq.lane ≠ rp.lane →
        let both := rq.order.filter h.present ++ rp.order.filter h.present
        let last := fun (x : BowlerRecord) => if rp.state = .gameDone then x else x.totalled
        ((rq.autoNext = false ∨ both = []) → h.runOutOn rq.lane = false → h.runOutOn rp.lane = false →
          t.squad q = some ended ∧ t.machine = h.machine ∧
            t.squad p = some (if rp.state = .gameDone then rp else { rp with
              state := .gameDone, stopPoint := none, upPosition := none })) ∧
        (rq.autoNext = true → 1 ≤ both.length → home = rq.lane → h.declinesNeed rp.lane = false → isLane rp.lane = true →
          ∀ a, (h.lane rq.lane).tab = some a → (h.lane rp.lane).tab = some a → ∀ rt, h.tab a = some rt →
          rt.gameCharges.amount ≤ 9999999 →
          (rt.startRefused both.length = true → t.squad q = some (stopped rq (.atStart .gameDone)) ∧
            t.squad p = some (stopped rp (.atStart .gameDone)) ∧ held rq.lane ∧ held rp.lane ∧
            t.tabOf a = h.tabOf a ∧ t.machine = h.machine) ∧
          (rt.startRefused both.length = false → ∀ i, rq.order.findIdx? h.present = some i →
            let second := rp.order.findIdx? h.present
            t.squad q = some { rq with
              frame := 1, state := .playing, stopPoint := none, upPosition := some i,
              pairGame := min (rq.pairGame + 1) 255 } ∧
            t.squad p = some { rp with
              frame := 1, state := if second = none then .frameWait else .playing, stopPoint := none,
              upPosition := second, pairGame := min (rp.pairGame + 1) 255 } ∧
            t.tabOf a = some { h.startCharged rt both.length with slots := [] } ∧
            ((h.lane rp.lane).deck = .idle → h.roomFor rp.lane → (t.lane rp.lane).cycle.map (·.kind) = some .newRack) ∧
            (∀ j ∈ rq.order, t.bowler j = (h.bowler j).map fun b => b.totalled.begun (decide (rq.order[i]? = some j))) ∧
            ∀ j ∈ rp.order, t.bowler j = (h.bowler j).map fun b =>
              (last b).begun (decide ((second.bind fun i => rp.order[i]?) = some j)))))))

/-- CORRECT BALL (R98, R101 to R105, R107): a past-frame correction replaces the sheet by its rescore, keeps the current
frame, and renews the newest game total of a finished game; a current-frame correction that leaves the frame unended
replaces the sheet and hands the deck the owed set, and one that ends the frame makes the rotation as a ball does and hands
NEW_RACK while a game goes on (R106); a set with a pin too many, a past frame's shape that changes, a trial that leaves a
stored ball of the current frame with no place, and a busy deck are refused. What an
answer shows when a next game begins in the step is log entry 35. -/
def Obligations.CorrectBallRescoresTheGame : Prop :=
  ∀ (s : State) (hd : Header) (k f index : Nat) (after : PinSet) (foul : Bool), s.house.quiet → s.takes hd →
    ∀ b, s.house.bowler k = some b → ∀ r, s.house.squad b.squad = some r → 1 ≤ f → f ≤ 10 → 1 ≤ index → index ≤ 3 →
    ∀ old, b.sheet.ball f index = some old →
    let h := s.house
    let c := Instr.correctBall hd k f index after foul
    let current := b.state = .up ∧ b.sheet.current = f ∧ (b.sheet.frame f).kind = none
    (hd.origin = .desk ∨
      hd.origin = .console (pairOf r.lane) ∧ (h.lane r.lane).options.consoleCorrections = true ∧ current) →
    let corrected := b.sheet.correct f index after foul
    let shown := fun (sh : Sheet) => (numbers 10).map fun g =>
      ({ kind := (sh.frame g).kind, score := (sh.frame g).score, running := (sh.frame g).running } : FrameSummary)
    (after &&& ~~~old.before ≠ noPins → Refuses s c hd .outOfRange) ∧
    (after &&& ~~~old.before = noPins → ¬current → corrected.rescore none = none → Refuses s c hd .outOfRange) ∧
    (after &&& ~~~old.before = noPins → current → ((h.lane r.lane).delivery.isSome = true ∨ (h.lane r.lane).cycle.isSome = true) →
      Refuses s c hd .inFlight) ∧
    (after &&& ~~~old.before = noPins → current → corrected.rescore (some f) = none → (h.lane r.lane).deckFits = true →
      (h.lane r.lane).delivery = none → (h.lane r.lane).cycle = none → Refuses s c hd .outOfRange) ∧
    (∀ trial, corrected.rescore none = some trial → after &&& ~~~old.before = noPins → ¬current →
      (b.gameNumber = 0 ∨ (r.inProgress = true ∧ b.inGame ≠ .no) →
        Answers s c hd (h.setBowler k (some { b with sheet := { trial with current := b.sheet.current } })) .done
          (.corrected (shown trial) b.sheet.current b.state none)) ∧
      (∀ newest, b.totals.getLast? = some newest → 1 ≤ b.gameNumber → (r.inProgress = false ∨ b.inGame = .no) →
        let renewed : GameTotal := { newest with
          total := if newest.incomplete then trial.highestRunning.getD 0 else trial.gameTotal }
        Answers s c hd
          (h.setBowler k (some { b with
            sheet := { trial with current := b.sheet.current }, totals := b.totals.dropLast ++ [renewed] })) .done
          (.corrected (shown trial) b.sheet.current b.state (some renewed)))) ∧
    (∀ trial, corrected.rescore (some f) = some trial → (trial.frame f).kind = none →
      after &&& ~~~old.before = noPins → current → (h.lane r.lane).deckFits = true →
      (h.lane r.lane).delivery = none → (h.lane r.lane).cycle = none →
      AnswersSettled s c hd ((h.setBowler k (some { b with sheet := trial })).handNeed r.lane .respot trial.owed) .done
        (.corrected (shown trial) trial.current .up none)) ∧
    (∀ trial, corrected.rescore (some f) = some trial → (trial.frame f).kind ≠ none →
      after &&& ~~~old.before = noPins → current → (h.lane r.lane).deckFits = true →
      (h.lane r.lane).delivery = none → (h.lane r.lane).cycle = none →
      let waiting := { b with sheet := trial, state := if f = 10 then .done else .waiting }
      let u := (h.setBowler k (some waiting)).setSquad b.squad (some { r with upPosition := none })
      let w := u.passOn r.lane b.squad true
      (∃ t, exec c s = .next t ∧ t.pending = s.pending ∧ t.house.bowlers = w.bowlers ∧ t.house.squads = w.squads) ∧
      (r.inProgress = true → ∀ place, ∀ j, r.order[place]? = some j → j ≠ k → ∀ y, h.bowler j = some y →
        u.toBowl r.frame j = true → (∀ i, i < place → ∀ m, r.order[i]? = some m → u.toBowl r.frame m = false) →
        AnswersSettled s c hd
          (((u.setBowler j (some { y with state := .up })).setSquad b.squad (some { r with
            upPosition := some place })).handNeed r.lane .newRack fullRack) .done
          (.corrected (shown trial) trial.current waiting.state none)))

/-! ### Ball returns (chapter 7) -/

/-- RETURN CLEAR empties the outstanding list of a pair and removes its deadline, and SET RETURN TIMEOUT writes the timeout
held to 10 to 120 s; neither touches anything else (R132, R133). BALL_BACK counts the oldest ball back, and watches the next
one in NORMAL; RETURN_FAULT raises RETURN_JAM, and so does the return deadline reached in NORMAL (R128 to R130). That
RETURN_DEADLINE sent before its time does nothing is log entry 6. -/
def Obligations.ReturnsAreClearedTimedCountedBackAndJammed : Prop :=
  (∀ (s : State) (hd : Header) (p seconds : Nat), s.house.quiet → s.takes hd →
      let h := s.house
      let r := h.ret p
      (isPair p = false → (∀ c, hd.origin ≠ .console c) → Refuses s (.returnClear hd p) hd .noRecord) ∧
      (isPair p = false → hd.origin = .desk → Refuses s (.setReturnTimeout hd p seconds) hd .noRecord) ∧
      (isPair p = true → (∀ c, hd.origin ≠ .console c) →
        Answers s (.returnClear hd p) hd (h.setRet p { r with outstanding := [], deadline := none }) .done .empty) ∧
      (isPair p = true → ∀ c, hd.origin = .console c → Refuses s (.returnClear hd p) hd .notYours) ∧
      (isPair p = true → hd.origin = .desk → Answers s (.setReturnTimeout hd p seconds) hd
        (h.setRet p { r with timeout := if seconds < 10 then 10 else if 120 < seconds then 120 else seconds })
        (if seconds < 10 ∨ 120 < seconds then .clamped else .done) .empty) ∧
      (isPair p = true → hd.origin ≠ .desk → Refuses s (.setReturnTimeout hd p seconds) hd .notYours)) ∧
  (∀ (s : State) (p : Nat), s.house.quiet → s.house.runs = true → isPair p = true → (s.house.slot p).present = true →
      let h := s.house
      let r := h.ret p
      (r.outstanding = [] → Becomes s (.ballBack p) h) ∧
      (r.outstanding ≠ [] →
        let rest := r.outstanding.tail
        (r.jam.isSome = true ∨ rest = [] → Becomes s (.ballBack p) (h.setRet p { r with outstanding := rest, deadline := none })) ∧
        (∀ f, rest.head? = some f → r.jam = none →
          (h.clock.timebase < f.seen + r.timeout * 10 → Becomes s (.ballBack p)
            (h.setRet p { r with outstanding := rest, deadline := some (f.seen + r.timeout * 10) })) ∧
          (f.seen + r.timeout * 10 ≤ h.clock.timebase → Becomes s (.ballBack p)
            ((h.setRet p { r with outstanding := rest, deadline := none, jam := some .timeout }).raiseCall (2 * p - 1)
              .returnJam)))) ∧
      (r.jam = none → Becomes s (.returnFault p)
        ((h.setRet p { r with deadline := none, jam := some .fault }).raiseCall (2 * p - 1) .returnJam)) ∧
      (r.jam.isSome = true → Becomes s (.returnFault p) (h.raiseCall (2 * p - 1) .returnJam)) ∧
      (∀ d, r.jam = none → r.deadline = some d →
        (d ≤ h.clock.timebase → Becomes s (.returnDeadline p)
          ((h.setRet p { r with deadline := none, jam := some .timeout }).raiseCall (2 * p - 1) .returnJam)) ∧
        (h.clock.timebase < d → Becomes s (.returnDeadline p) h)) ∧
      (r.jam.isSome = true → Becomes s (.returnDeadline p) h))

/-! ### Mechanic calls (chapter 8) -/

/-- What a raise does (R138 to R141): it is counted as a repeat, it finds its kind waiting, it enters the queue under the
next number after the last given that no call holds, or it joins the unqueued set of a full queue; a blocking kind holds the
lane it concerns. A RETURN_JAM is kept for the odd lane of its pair (log entry 29) and holds both lanes. -/
def Obligations.RaisedCallsEnterOrRepeat : Prop :=
  ∀ (h : House) (n : Nat) (k : CallKind) (code : Option Half), isLane n = true →
    let t := h.raiseCall n k code
    let m := if k = .returnJam then 2 * pairOf n - 1 else n
    let concerned := if k = .returnJam then [2 * pairOf n - 1, 2 * pairOf n] else [n]
    (∀ c, h.calls.find m k = some c →
      t = { h with calls := { h.calls with queue := h.calls.queue.map fun x =>
        if x.lane = m ∧ x.kind = k then { x with repeats := min (x.repeats + 1) 99 } else x } }) ∧
    (h.calls.find m k = none → (h.unqueued m).has k = true → t = h) ∧
    (h.calls.find m k = none → (h.unqueued m).has k = false → h.calls.queue.length < 32 → h.calls.lastNumber ≤ 999 →
      let number := t.calls.lastNumber
      let after := (List.range 33).map fun i => (h.calls.lastNumber + i) % 999 + 1
      (after.find? fun x => h.calls.queue.all fun c => decide (c.number ≠ x)) = some number ∧
        t.calls = { h.calls with
          queue := h.calls.queue ++ [
            { number := number, lane := m, kind := k, callClass := h.calls.classMap[k.place], station := none, repeats := 1,
              opened := h.stamp, faultCode := if k = .machineJam then code else none }],
          lastNumber := number }) ∧
    (h.calls.find m k = none → (h.unqueued m).has k = false → 32 ≤ h.calls.queue.length →
      t.calls.queue = h.calls.queue ∧ (t.unqueued m).has k = true ∧
        ∀ j, j ≠ k → (t.unqueued m).has j = (h.unqueued m).has j) ∧
    (isBlocking k = false → t.lanes = h.lanes) ∧
    (∀ x, x ∉ concerned → t.lane x = h.lane x) ∧
    (∀ x ∈ concerned, isBlocking k = true → h.blocked x = false → (h.lane x).keepsCauses = true →
      (h.lane x).causesFit = true →
      (t.lane x).causes.call = true ∧ ((h.lane x).mode ≠ .warming → (t.lane x).mode = .held) ∧
        (t.lane x).delivery = (h.lane x).delivery ∧ (t.lane x).cycle = (h.lane x).cycle) ∧
    t.bowlers = h.bowlers ∧ t.squads = h.squads ∧ t.returns = h.returns ∧ t.machine = h.machine ∧ t.clock = h.clock

/-- ASSIST and DESK CALL raise their kinds and are answered DONE, naming what became of the raise (R142). -/
def Obligations.AssistAndDeskCallAreAnswered : Prop :=
  ∀ (s : State) (hd : Header) (n : Nat), s.house.quiet → s.takes hd →
    let h := s.house
    (isLane n = false → hd.origin = .desk →
      Refuses s (.assist hd n) hd .noRecord ∧ Refuses s (.deskCall hd n) hd .noRecord) ∧
    (isLane n = true → hd.origin ≠ .desk → hd.origin ≠ .console (pairOf n) → Refuses s (.assist hd n) hd .notYours) ∧
    (isLane n = true → hd.origin ≠ .desk → Refuses s (.deskCall hd n) hd .notYours) ∧
    let answered := fun (k : CallKind) (c : Instr) =>
      (∀ call, h.calls.find n k = some call → Answers s c hd (h.raiseCall n k) .done (.callRepeated call.number)) ∧
      (h.calls.find n k = none → ((h.unqueued n).has k = true ∨ 32 ≤ h.calls.queue.length) →
        Answers s c hd (h.raiseCall n k) .done .callUnqueued) ∧
      (h.calls.find n k = none → (h.unqueued n).has k = false → h.calls.queue.length < 32 →
        Answers s c hd (h.raiseCall n k) .done (.callOpened (h.raiseCall n k).calls.lastNumber))
    (isLane n = true → (hd.origin = .desk ∨ hd.origin = .console (pairOf n)) → answered .assist (.assist hd n)) ∧
    (isLane n = true → hd.origin = .desk → answered .desk (.deskCall hd n))

/-- SET CLASS MAP and SET DISPATCH (R143, R144): the kinds and classes named are written within their ranges, the others
kept, and every credit is 0 after SET DISPATCH; the calls in the queue keep their class. A kind is named once (log entry
22), and that a name that is no kind is refused before the origin is checked is log entry 5. -/
def Obligations.ClassMapAndDispatchAreWritten : Prop :=
  ∀ (s : State) (hd : Header), s.house.quiet → s.takes hd →
    let q := s.house.calls
    (∀ entries : List (CallKind × Nat), hd.origin = .desk → (entries.map fun e => e.1.place.val).Nodup →
      Answers s (.setClassMap hd (entries.map fun e => (some e.1, e.2))) hd
        { s.house with calls := { q with
          classMap := Vector.ofFn fun i : Fin 9 =>
            ((entries.find? fun e => decide (e.1.place = i)).map fun e => min e.2 3).getD q.classMap[i] } }
        (if entries.any fun e => decide (3 < e.2) then .clamped else .done) .empty) ∧
    (∀ entries : List (Option CallKind × Nat), (entries.any fun e => e.1.isNone) = true →
      Refuses s (.setClassMap hd entries) hd .badRequest) ∧
    (∀ entries : List (CallKind × Nat), hd.origin ≠ .desk →
      Refuses s (.setClassMap hd (entries.map fun e => (some e.1, e.2))) hd .notYours) ∧
    (∀ settings : Vector (Option DispatchSetting) 4, hd.origin = .desk →
      let held := fun (d : DispatchSetting) => match d with
        | .strict => DispatchSetting.strict
        | .ratio n => .ratio (max 1 (min n 15))
      Answers s (.setDispatch hd settings) hd
        { s.house with calls := { q with
          dispatch := Vector.ofFn fun c : Fin 4 => ((settings[c]).map held).getD q.dispatch[c],
          credits := #v[0, 0, 0, 0] } }
        (if settings.toList.any fun d => d.any fun d => decide (held d ≠ d) then .clamped else .done) .empty) ∧
    (∀ settings, hd.origin ≠ .desk → Refuses s (.setDispatch hd settings) hd .notYours)

/-- NEXT CALL hands a station the oldest WAITING call of the highest STRICT class that has one, else of the highest RATIO
class with a WAITING call and a credit, which it lowers, else after a new round; a station that holds 2 is refused LIMIT
(R145). -/
def Obligations.NextCallFollowsTheDispatchSettings : Prop :=
  (∀ (s : State) (hd : Header) (named : Nat), s.house.quiet → s.takes hd →
    (isConsole hd.origin = true → Refuses s (.nextCall hd named) hd .notYours) ∧
    (hd.origin = .desk → (named < 1 ∨ 4 < named) → Refuses s (.nextCall hd named) hd .noRecord)) ∧
  ∀ (s : State) (hd : Header) (named k : Nat), s.house.quiet → s.takes hd →
    (hd.origin = .station k ∨ hd.origin = .desk ∧ named = k) → 1 ≤ k → k ≤ 4 →
    let h := s.house
    let q := h.calls
    let held := numGet q.stations [] k
    let oldest := fun (c : Fin 4) => q.queue.find? fun r => r.station.isNone && decide (r.callClass = c.val)
    let ratio := fun (c : Fin 4) => match q.dispatch[c] with
      | .ratio n => n
      | .strict => 0
    let take := fun (r : CallRecord) (credits : Vector Nat 4) => { h with calls := { q with
      queue := q.queue.map fun x => if x.number = r.number then { x with station := some k } else x,
      stations := numSet q.stations k (held ++ [r.number]), credits := credits } }
    (2 ≤ held.length → Refuses s (.nextCall hd named) hd .limit) ∧
    (held.length < 2 →
      ((∀ r ∈ q.queue, r.station.isSome = true) → Answers s (.nextCall hd named) hd h .done (.nextCall none)) ∧
      (∀ (c : Fin 4) (r : CallRecord), q.dispatch[c] = .strict → oldest c = some r →
        (∀ d : Fin 4, c < d → q.dispatch[d] = .strict → oldest d = none) →
        Answers s (.nextCall hd named) hd (take r q.credits) .done (.nextCall (some { r with station := some k }))) ∧
      (∀ (c : Fin 4) (r : CallRecord), (∀ d : Fin 4, q.dispatch[d] = .strict → oldest d = none) →
        q.dispatch[c] ≠ .strict → oldest c = some r → 0 < q.credits[c] →
        (∀ d : Fin 4, c < d → q.dispatch[d] ≠ .strict → 0 < q.credits[d] → oldest d = none) →
        Answers s (.nextCall hd named) hd (take r (q.credits.set c (q.credits[c] - 1))) .done
          (.nextCall (some { r with station := some k }))) ∧
      (∀ (c : Fin 4) (r : CallRecord), (∀ d : Fin 4, q.dispatch[d] = .strict → oldest d = none) →
        (∀ d : Fin 4, q.dispatch[d] ≠ .strict → 0 < q.credits[d] → oldest d = none) →
        (∀ d : Fin 4, q.dispatch[d] ≠ .strict → 1 ≤ ratio d) →
        q.dispatch[c] ≠ .strict → oldest c = some r → (∀ d : Fin 4, c < d → oldest d = none) →
        let round := Vector.ofFn fun d : Fin 4 => if q.dispatch[d] = .strict then q.credits[d] else ratio d
        Answers s (.nextCall hd named) hd (take r (round.set c (ratio c - 1))) .done
          (.nextCall (some { r with station := some k }))))

/-- RETURN CALL gives a TAKEN call back in its old place and lowers no credit, and CLEAR CALL retires a call, by its number
or by its lane and kind (R146, R147); a WAKE_FAIL of a lane still WARMING orders POWER_ON again (R16). The clearing of a
blocking kind, and the place a call frees, are the next statement's. -/
def Obligations.CallsAreReturnedAndCleared : Prop :=
  ∀ (s : State) (hd : Header) (number : Nat), s.house.quiet → s.takes hd → isConsole hd.origin = false →
      let h := s.house
      let q := h.calls
      (q.numbered number = none →
        Refuses s (.returnCall hd number) hd .noRecord ∧ Refuses s (.clearCall hd (.byNumber number)) hd .noRecord) ∧
      (∀ (n : Nat) (k : CallKind), isLane n = true → (k = .ballInPit ∨ k = .assist ∨ k = .desk) → q.find n k = none →
        (h.unqueued n).has k = true →
        Answers s (.clearCall hd (.byLaneAndKind n (some k))) hd
          (h.setUnqueued n { h.unqueued n with kinds := (h.unqueued n).kinds.set k.place false }) .done .empty) ∧
      ∀ c, q.numbered number = some c →
        let removed := { h with calls := { q with
          queue := q.queue.filter fun x => x.number ≠ number,
          stations := q.stations.map fun held => held.filter (· ≠ number) } }
        (c.station = none → hd.origin = .desk → Refuses s (.returnCall hd number) hd .wrongState) ∧
        (∀ k, c.station = some k → hd.origin ≠ .desk → hd.origin ≠ .station k →
          Refuses s (.returnCall hd number) hd .notYours ∧ Refuses s (.clearCall hd (.byNumber number)) hd .notYours) ∧
        (∀ k, c.station = some k → (hd.origin = .desk ∨ hd.origin = .station k) → Answers s (.returnCall hd number) hd
          { h with calls := { q with
            queue := q.queue.map fun x => if x.number = number then { x with station := none } else x,
            stations := q.stations.map fun held => held.filter (· ≠ number) } } .done .empty) ∧
        (c.clearableBy hd.origin → h.nextUnqueued = none →
          (c.kind = .ballInPit ∨ c.kind = .assist ∨ c.kind = .desk ∨ c.kind = .wakeFail ∧ (h.lane c.lane).mode ≠ .warming →
            Answers s (.clearCall hd (.byNumber number)) hd removed .done .empty) ∧
          (c.kind = .wakeFail → (h.lane c.lane).mode = .warming → isLane c.lane = true → h.roomFor c.lane →
            let l := h.lane c.lane
            Answers s (.clearCall hd (.byNumber number)) hd
              ((removed.setLane c.lane { l with warmUp := some (h.clock.timebase + l.options.warmUpTimeout * 10) }).setSlot
                (pairOf c.lane) ((h.slot (pairOf c.lane)).ordered c.lane .powerOn)) .done .empty)) ∧
        (∀ (n : Nat) (k : CallKind), isLane n = true →
          q.find (if k = .returnJam then 2 * pairOf n - 1 else n) k = some c → c.clearableBy hd.origin →
          exec (.clearCall hd (.byLaneAndKind n (some k))) s = exec (.clearCall hd (.byNumber number)) s)

/-- The clearing of a lane's blocking call, or of its blocking kind from the unqueued set, that leaves no other (R147, R148,
R141, R44): the lane loses CALL and goes LIVE where it holds nothing else, and deck recovery is started. A RETURN_JAM's
clearing ends the jam (R131) and does the same for both lanes of its pair. The place a cleared call frees is taken by the
first kind of the lowest-numbered lane whose unqueued set is not empty (R140). -/
def Obligations.BlockingCallsClearAndPlacesFill : Prop :=
  (∀ (s : State) (hd : Header), s.house.quiet → s.takes hd → isConsole hd.origin = false →
    let h := s.house
    let q := h.calls
    let answered := h.port.answers ++ [{ sequence := hd.sequence, result := .done, body := .empty }]
    let blocks := fun (k : CallKind) => k = .machineJam ∨ k = .cycleTimeout ∨ k = .setFail ∨ k = .readerFail
    let freed := fun (u : House) (n : Nat) (t : State) =>
      u.blocked n = false → (h.lane n).playing = true → (h.lane n).mode = .held → (h.lane n).causes.link = false →
      (h.lane n).causes.restart = false → (h.lane n).delivery = none → h.modulePresent n = true →
      (h.slot (pairOf n)).orders.length ≤ 6 →
      (t.house.lane n).causes = { (h.lane n).causes with call := false } ∧
        (t.house.lane n).mode = (if { (h.lane n).causes with call := false } = .none then .live else .held) ∧
        (t.house.lane n).cycle.map (·.kind) = some .resetMachine
    (∀ number, ∀ c, q.numbered number = some c → c.clearableBy hd.origin → isLane c.lane = true →
      let clears := Instr.clearCall hd (.byNumber number)
      let left := q.queue.filter fun x => x.number ≠ number
      (h.nextUnqueued = none → blocks c.kind → ∃ t, exec clears s = .next t ∧ t.pending = s.pending ∧
        t.house.port.answers = answered ∧ t.house.calls.queue = left ∧ freed (h.removeCall number) c.lane t ∧
        t.house.bowlers = h.bowlers ∧ t.house.squads = h.squads) ∧
      (h.nextUnqueued = none → c.kind = .returnJam → c.lane = 2 * pairOf c.lane - 1 →
        ∃ t, exec clears s = .next t ∧ t.pending = s.pending ∧
        let p := pairOf c.lane
        t.house.port.answers = answered ∧ t.house.calls.queue = left ∧
          t.house.ret p = { outstanding := [], timeout := (h.ret p).timeout, deadline := none, jam := none } ∧
          freed (h.removeCall number) (2 * p - 1) t ∧ freed (h.removeCall number) (2 * p) t ∧
          t.house.bowlers = h.bowlers ∧ t.house.squads = h.squads) ∧
      (∀ e, h.nextUnqueued = some e → left.length = 31 → q.lastNumber ≤ 999 →
        ∃ t, exec clears s = .next t ∧ t.pending = s.pending ∧ t.house.port.answers = answered ∧
          let number := t.house.calls.lastNumber
          let after := (List.range 33).map fun i => (q.lastNumber + i) % 999 + 1
          (after.find? fun x => left.all fun c => decide (c.number ≠ x)) = some number ∧
          t.house.calls.queue = left ++ [
            { number := number, lane := e.1, kind := e.2, callClass := q.classMap[e.2.place], station := none, repeats := 1,
              opened := h.stamp, faultCode := if e.2 = .machineJam then (h.unqueued e.1).faultCode else none }] ∧
          ∀ k, (t.house.unqueued e.1).has k = ((h.unqueued e.1).has k && decide (k ≠ e.2)))) ∧
    (∀ (n : Nat) (k : CallKind), isLane n = true → blocks k → q.find n k = none → (h.unqueued n).has k = true →
      ∃ t, exec (.clearCall hd (.byLaneAndKind n (some k))) s = .next t ∧ t.pending = s.pending ∧
        t.house.port.answers = answered ∧ t.house.calls.queue = q.queue ∧ (t.house.unqueued n).has k = false ∧
        freed (h.setUnqueued n ((h.unqueued n).leave k)) n t ∧ t.house.bowlers = h.bowlers ∧
        t.house.squads = h.squads)) ∧
  (∀ (h : House) (n : Nat) (k : CallKind), h.nextUnqueued = some (n, k) →
    isLane n = true ∧ (h.unqueued n).has k = true ∧ (∀ m ∈ numbers (n - 1), ∀ j, (h.unqueued m).has j = false) ∧
      ∀ j : CallKind, j.place.val < k.place.val → (h.unqueued n).has j = false)

/-! ### Rate plans and tabs (chapter 9) -/

/-- SET PLAN writes a definition within its ranges with its bands in ascending order of start minute, and CLEAR PLAN removes
one; a plan that an OPEN tab uses, and bands out of their checks, are refused (R152, R153). -/
def Obligations.PlansAreSetAndCleared : Prop :=
  ∀ (s : State) (hd : Header) (p : Nat) (kind : PlanKind) (bands : List Band) (increment minimum : Nat) (rounding : Rounding),
    s.house.quiet → s.desk hd →
    let h := s.house
    let c := Instr.setPlan hd p (some kind) bands increment (some rounding) minimum
    (8 ≤ p → Refuses s c hd .noRecord ∧ Refuses s (.clearPlan hd p) hd .noRecord) ∧
    (p < 8 → bands = [] ∨ 4 < bands.length ∨ (∃ b ∈ bands, 1439 < b.start) ∨ ¬(bands.map (·.start)).Nodup →
      Refuses s c hd .outOfRange) ∧
    (p < 8 → h.planInUse p = true → Refuses s (.clearPlan hd p) hd .inUse) ∧
    (p < 8 → h.planInUse p = false → Answers s (.clearPlan hd p) hd (h.setPlan p none) .done .empty) ∧
    (p < 8 → bands ≠ [] → bands.length ≤ 4 → (∀ b ∈ bands, b.start ≤ 1439) → (bands.map (·.start)).Nodup →
      (h.planInUse p = true → Refuses s c hd .inUse) ∧
      (h.planInUse p = false → ∃ t, exec c s = .next t ∧ ∃ r, t.house.plan p = some r ∧
        r.bands.Perm (bands.map fun b => { start := b.start, price := min b.price 99999 }) ∧
        r.bands.Pairwise (fun a b => a.start < b.start) ∧
        Answers s c hd
          (h.setPlan p (some
            { kind := kind, bands := r.bands, increment := max 1 (min increment 60), rounding := rounding,
              minimum := min minimum 99999 }))
          (if (∃ b ∈ bands, 99999 < b.price) ∨ increment < 1 ∨ 60 < increment ∨ 99999 < minimum then .clamped else .done)
          .empty))

/-- OPEN TAB takes the free tab of the lowest number, and writes the allowance and the lead given, each held to its range, or
none and 10 minutes; CLAMPED says that one was held (R155). A lane named, and ATTACH, gives the tab a slot of the lane, or
its old slot again, and writes the lane's tab field (R156); with auto-wake a wake is started where the module is present,
and where it is absent the lane stays DARK and the answer is the same (R14). That a new slot stands behind the slot the tab
holds is the model's choice (log entry 38). The refusals of a lane that is not DARK or has
a tab, of a DUE tab and of a tab with a slot of another pair. -/
def Obligations.TabsOpenAndLanesAttach : Prop :=
  ∀ (s : State) (hd : Header), s.house.quiet → s.desk hd →
    let h := s.house
    let slot := fun (n : Nat) (p : RatePlan) => ({
      lane := n, attached := true, bandSeconds := List.replicate p.bands.length 0, downtime := 0, condition := some .idle }
      : MeterSlot)
    let opened := fun (plan : Nat) (a : Allowance) (lead : Nat) (slots : List MeterSlot) =>
      ({
         state := .opened, plan := plan, slots := slots, gamesStarted := 0, lastStart := 0,
         gameCharges := { amount := 0, held := false }, allowance := a, lead := lead, warning := .none, runOut := false,
         items := [], bill := none } : TabRecord)
    let woken := fun (u : House) (n : Nat) (auto : Bool) => if auto && h.modulePresent n then u.startWake n else u
    (∀ p lane auto a lead, p < 8 → h.clock.isSet = false → (∀ n, lane = some n → isLane n = true) →
      Refuses s (.openTab hd p lane auto a lead) hd .clockUnset) ∧
    (∀ p auto lead, p < 8 → h.clock.isSet = true → h.freeTab = none →
      Refuses s (.openTab hd p none auto none lead) hd .full) ∧
    (∀ p, p < 8 → h.clock.isSet = true → ∀ a, h.freeTab = some a → ∀ plan, h.plan p = some plan →
      ∀ (auto : Bool) (given : Option Allowance) (lead : Option Nat),
      let wanted := given.getD .unlimited
      let allowance := match wanted with
        | .unlimited => Allowance.unlimited
        | .games n => .games (max 1 (min n 9999))
        | .minutes n => .minutes (max 1 (min n 1440))
      let lead' := (lead.map fun v => min v 60).getD 10
      let answer := if allowance ≠ wanted ∨ lead.any (fun v => decide (60 < v)) = true then Verdict.clamped else .done
      Answers s (.openTab hd p none auto (given.map some) lead) hd (h.setTab a (some (opened p allowance lead' []))) answer
        (.tabOpened a) ∧
      (∀ n, isLane n = true → (h.lane n).mode = .dark → (h.lane n).tab = none →
        AnswersSettled s (.openTab hd p (some n) auto (given.map some) lead) hd
          (woken ((h.setTab a (some (opened p allowance lead' [slot n plan]))).setLane n { h.lane n with tab := some a }) n auto)
          answer (.tabOpened a)) ∧
      (∀ n, isLane n = true → ((h.lane n).mode ≠ .dark ∨ (h.lane n).tab.isSome = true) →
        Refuses s (.openTab hd p (some n) auto (given.map some) lead) hd .wrongState) ∧
      Refuses s (.openTab hd p none auto (some none) lead) hd .badRequest) ∧
    (∀ (a n : Nat) (auto : Bool), isLane n = true → ∀ r, h.tab a = some r →
      (r.state = .opened → (h.lane n).mode = .dark → (h.lane n).tab = none → ∀ plan, h.plan r.plan = some plan →
        (∀ m ∈ r.slots, pairOf m.lane = pairOf n) →
        AnswersSettled s (.attach hd a n auto) hd
          (woken ((h.setTab a (some { r with
            slots := if r.slots.any (fun m => m.lane = n) then
              r.slots.map fun m => if m.lane = n then { m with attached := true, condition := some .idle } else m
            else r.slots ++ [slot n plan] })).setLane n { h.lane n with tab := some a }) n auto) .done .empty) ∧
      (r.state = .opened → (h.lane n).mode = .dark → (h.lane n).tab = none → (∃ m ∈ r.slots, pairOf m.lane ≠ pairOf n) →
        Refuses s (.attach hd a n auto) hd .wrongState) ∧
      (r.state = .opened → ((h.lane n).mode ≠ .dark ∨ (h.lane n).tab.isSome = true) →
        Refuses s (.attach hd a n auto) hd .wrongState) ∧
      (r.state = .due → Refuses s (.attach hd a n auto) hd .wrongState))

/-- DETACH (R157): the slot keeps its seconds and is marked attached no, the tab field is cleared, and the lane closes: a
LIVE or HELD lane is CLOSING with no causes, its squad in open play is retired with its bowlers (R17, R82), a delivery being
read goes on and a frozen or MANUAL one is dropped, and an idle deck is swept; a WARMING lane is DARK, and a DARK one stays
DARK. CLOSE detaches every lane of the tab, freezes its bill and makes it DUE; the bill is in the answer (R158, R173). Where
the order a closing gives finds 8 orders in the buffer, the module is declared absent in the same step (R178), which touches
the pair's other lane too; the clauses on other lanes and on the slots after it ask for room. That the raise records are
cleared with the flags is log entry 24. -/
def Obligations.LanesDetachAndTabsClose : Prop :=
  (∀ (s : State) (hd : Header) (n : Nat), s.house.quiet → s.desk hd → isLane n = true →
      ∀ a, (s.house.lane n).tab = some a → ∀ r, s.house.tab a = some r →
      ∃ t, exec (.detach hd n) s = .next t ∧ t.pending = s.pending ∧
        t.house.port.answers = s.house.port.answers ++ [{ sequence := hd.sequence, result := .done, body := .empty }] ∧
        (t.house.lane n).tab = none ∧ (t.house.lane n).mask = (s.house.lane n).mask ∧
        let l := s.house.lane n
        let freed := some { r with slots := r.slots.map fun m =>
            if m.lane = n then { m with attached := false, condition := none } else m }
        let room := (s.house.slot (pairOf n)).orders.length < 8
        (l.mode = .dark → (t.house.lane n) = { l with tab := none } ∧ t.house.tab a = freed) ∧
        (l.mode = .warming → (t.house.lane n).mode = .dark ∧ (t.house.lane n).causes = .none ∧
          (t.house.lane n).warmUp = none) ∧
        (l.playing = true → (t.house.lane n).mode = .closing ∧ (t.house.lane n).causes = .none ∧
          (t.house.lane n).flags = Vector.replicate 6 false ∧ (t.house.lane n).context = none ∧
          (t.house.lane n).foulMark = none ∧
          (l.squad = none → t.house.bowlers = s.house.bowlers ∧ t.house.squads = s.house.squads) ∧
          (∀ q, l.squad = some q → ∀ rq, s.house.squad q = some rq → rq.lane = n → rq.mode = .openPlay →
            t.house.squad q = none ∧ (t.house.lane n).squad = none ∧ (∀ k ∈ rq.order, t.house.bowler k = none) ∧
            (∀ p, p ≠ q → t.house.squad p = s.house.squad p) ∧
            ∀ k, k ∉ rq.order → t.house.bowler k = s.house.bowler k) ∧
          ((∀ q, l.squad = some q → ∀ rq, s.house.squad q = some rq → rq.lane = n ∧ rq.mode = .openPlay) →
            (∀ d, l.delivery = some d → (t.house.lane n).delivery =
              if d.frozen = true ∨ d.manner = .manual then none else some d) ∧
            (room → t.house.tab a = freed) ∧
            (l.delivery = none → l.cycle = none → s.house.modulePresent n = true →
              (room → (t.house.lane n).cycle.map (·.kind) = some .sweep) ∧
              (¬room → (t.house.lane n).cycle = none ∧ (t.house.slot (pairOf n)).present = false ∧
                (t.house.slot (pairOf n)).orders = []))))) ∧
  (∀ (s : State) (hd : Header) (a : Nat), s.house.quiet → s.desk hd → ∀ r, s.house.tab a = some r →
      (r.state = .due → Refuses s (.close hd a) hd .wrongState) ∧
      ∀ p, s.house.plan r.plan = some p → r.state = .opened →
        let lanes := (r.slots.filter (·.attached)).map (·.lane)
        (∀ n ∈ lanes, isLane n = true ∧ (s.house.lane n).tab = some a ∧
          ∀ q, (s.house.lane n).squad = some q → ∀ rq, s.house.squad q = some rq → rq.lane = n ∧ rq.mode = .openPlay) →
        ∃ t, exec (.close hd a) s = .next t ∧ t.pending = s.pending ∧
          let released := { r with slots := r.slots.map fun m =>
            if m.lane ∈ lanes then { m with attached := false, condition := none } else m }
          let bill := computeBill a released p s.house.stamp
          t.house.tab a = some { released with state := .due, bill := some bill } ∧
          t.house.port.answers = s.house.port.answers ++ [{ sequence := hd.sequence, result := .done, body := .bill bill }] ∧
          (∀ n ∈ lanes, (t.house.lane n).tab = none ∧
            ((s.house.lane n).playing = true → (t.house.lane n).mode = .closing) ∧
            (((s.house.lane n).mode = .warming ∨ (s.house.lane n).mode = .dark) → (t.house.lane n).mode = .dark) ∧
            (((s.house.lane n).playing = true ∨ (s.house.lane n).mode = .warming) → ∀ q, (s.house.lane n).squad = some q →
              ∀ rq, s.house.squad q = some rq → t.house.squad q = none ∧ ∀ k ∈ rq.order, t.house.bowler k = none)) ∧
          (∀ n, n ∉ lanes → (t.house.lane n).tab = (s.house.lane n).tab) ∧
          ((∀ n ∈ lanes, (s.house.slot (pairOf n)).orders.length + lanes.length ≤ 8) →
            ∀ n, n ∉ lanes → (t.house.lane n).mode = (s.house.lane n).mode))

/-- SETTLE retires a DUE tab: its record is free, and no lane record changes (R159). ACK WARNING makes a SET warning
ACKNOWLEDGED, and answers by the tab's state otherwise (R163). -/
def Obligations.DueTabsSettleAndWarningsAreAcknowledged : Prop :=
  (∀ (s : State) (hd : Header) (a : Nat), s.house.quiet → s.takes hd →
      (hd.origin ≠ .desk → (s.house.tab a).map (·.state) = some .due → Refuses s (.settle hd a) hd .notYours) ∧
      (hd.origin = .desk →
        (s.house.tab a = none → Refuses s (.settle hd a) hd .noRecord) ∧
        ∀ r, s.house.tab a = some r →
          (r.state = .opened → Refuses s (.settle hd a) hd .wrongState) ∧
          (r.state = .due → AnswersSettled s (.settle hd a) hd (s.house.setTab a none) .done .empty))) ∧
  (∀ (s : State) (hd : Header) (a : Nat), s.house.quiet → s.takes hd →
      (hd.origin ≠ .desk → ∀ r, s.house.tab a = some r → r.state = .opened → r.warning ≠ .none →
        Refuses s (.ackWarning hd a) hd .notYours) ∧
      (hd.origin = .desk → s.house.tab a = none → Refuses s (.ackWarning hd a) hd .noRecord) ∧
      (hd.origin = .desk → ∀ r, s.house.tab a = some r →
        (r.state = .due → Refuses s (.ackWarning hd a) hd .wrongState) ∧
        (r.state = .opened → r.warning = .none → Refuses s (.ackWarning hd a) hd .wrongState) ∧
        (r.state = .opened → r.warning = .acknowledged → Answers s (.ackWarning hd a) hd s.house .done .empty) ∧
        (r.state = .opened → r.warning = .set →
          AnswersSettled s (.ackWarning hd a) hd (s.house.setTab a (some { r with warning := .acknowledged })) .done .empty)))

/-- ADD ITEM appends an entry or adds to one, within the ranges of R160, and REMOVE ITEM takes one out; a code not on the tab
is refused NO_RECORD, of a DUE tab too (log entry 5). -/
def Obligations.ItemsAreAddedAndRemoved : Prop :=
  (∀ (s : State) (hd : Header) (a code quantity price : Nat), s.house.quiet → s.takes hd →
    (hd.origin ≠ .desk → Refuses s (.addItem hd a code quantity price) hd .notYours) ∧
    (hd.origin ≠ .desk → ∀ r, s.house.tab a = some r → r.state = .opened → (∃ e ∈ r.items, e.code = code) →
      Refuses s (.removeItem hd a code) hd .notYours) ∧
    (hd.origin = .desk → s.house.tab a = none →
      Refuses s (.addItem hd a code quantity price) hd .noRecord ∧ Refuses s (.removeItem hd a code) hd .noRecord)) ∧
  ∀ (s : State) (hd : Header) (a code quantity price : Nat) (r : TabRecord), s.house.quiet → s.desk hd →
    s.house.tab a = some r →
    let h := s.house
    let amount := max 1 (min quantity 99)
    let unit := min price 99999
    let changed := decide (quantity < 1) || decide (99 < quantity) || decide (99999 < price)
    let old := r.items.find? fun e => decide (e.code = code)
    (r.state = .due → Refuses s (.addItem hd a code quantity price) hd .wrongState ∧
      (old.isSome = true → Refuses s (.removeItem hd a code) hd .wrongState)) ∧
    (old = none → Refuses s (.removeItem hd a code) hd .noRecord) ∧
    (r.state = .opened → (code < 1 ∨ 255 < code) → Refuses s (.addItem hd a code quantity price) hd .outOfRange) ∧
    (r.state = .opened → 1 ≤ code → code ≤ 255 →
      (old = none → 8 ≤ r.items.length → Refuses s (.addItem hd a code quantity price) hd .full) ∧
      (old = none → r.items.length < 8 →
        let e : LineItem := { code := code, quantity := amount, price := unit }
        Answers s (.addItem hd a code quantity price) hd (h.setTab a (some { r with items := r.items ++ [e] }))
          (if changed then .clamped else .done) (.item e)) ∧
      (∀ e, old = some e → e.price ≠ unit → Refuses s (.addItem hd a code quantity price) hd .outOfRange) ∧
      (∀ e, old = some e → e.price = unit →
        let sum : LineItem := { e with quantity := min (e.quantity + amount) 99 }
        Answers s (.addItem hd a code quantity price) hd
          (h.setTab a (some { r with items := r.items.map fun x => if x.code = code then sum else x }))
          (if changed || decide (99 < e.quantity + amount) then .clamped else .done) (.item sum))) ∧
    (r.state = .opened → old.isSome = true → Answers s (.removeItem hd a code) hd
      (h.setTab a (some { r with items := r.items.filter fun e => e.code ≠ code })) .done .empty)

/-- ADJUST ALLOWANCE writes the allowance within its range, recomputes the run-out mark and the warning, and reports to the
Scoring Unit; the answer shows the fields as they stand after the report (R162). "Run out" stops the squads in FORMING and
GAME_DONE at AT_START, and leaves the others (R94). "Lifted" releases the stopped squads (R95): from AT_START to the state
it returns to; from AT_FRAME in open play into the next frame; in pair play by the swap put off where both are stopped,
and to FRAME_WAIT where the partner still bowls. Each lane loses ALLOWANCE. -/
def Obligations.AdjustAllowanceRecomputesTheMarks : Prop :=
  (∀ (s : State) (hd : Header) (a : Nat) (r : TabRecord) (given : Allowance) (lead : Option Nat), s.house.quiet → s.desk hd →
      s.house.tab a = some r → r.state = .opened →
      let h := s.house
      let allowance := match given with
        | .unlimited => Allowance.unlimited
        | .games n => .games (min (max n (max r.gamesStarted 1)) (max 9999 (max r.gamesStarted 1)))
        | .minutes n => .minutes (max 1 (min n 1440))
      let lead' := (lead.map fun v => min v 60).getD r.lead
      let runOut := match allowance with
        | .minutes n => r.slots.any fun m => decide (n * 60 ≤ m.total)
        | _ => false
      let met := match allowance with
        | .unlimited => false
        | .games n => decide (n < r.gamesStarted + r.lastStart)
        | .minutes n => r.slots.any fun m => decide ((n - lead') * 60 ≤ m.total)
      let warning := if met then (if r.warning = .acknowledged then .acknowledged else .set) else .none
      let r' := { r with allowance := allowance, lead := lead', runOut := runOut, warning := warning }
      let lanes := (r.slots.filter (·.attached)).map (·.lane)
      r.gamesStarted ≤ 9999 →
        let after := if runOut = false then (h.setTab a (some r')).reportLifted lanes
          else if r.runOut = false then (h.setTab a (some r')).reportRunOut lanes else h.setTab a (some r')
        let shown := (after.tab a).getD r'
        AnswersSettled s (.adjustAllowance hd a (some given) lead) hd after
          (if allowance = given ∧ (∀ v, lead = some v → v ≤ 60) then .done else .clamped)
          (.allowance shown.allowance shown.warning shown.runOut)) ∧
  (∀ (h : House) (n : Nat), isLane n = true → ∀ q, (h.lane n).squad = some q → ∀ r, h.squad q = some r → r.lane = n →
    ((r.state = .forming ∨ r.state = .gameDone) → r.stopPoint = none →
      h.reportRunOut [n] = (h.setSquad q (some { r with
        state := .stopped, upPosition := none,
        stopPoint := some (.atStart (if r.state = .forming then .forming else .gameDone)) })).addCause n .allowance) ∧
    (r.state ≠ .forming → r.state ≠ .gameDone → h.reportRunOut [n] = h) ∧
    (r.state ≠ .stopped → h.reportLifted [n] = h) ∧
    (r.state = .stopped → ∀ point, r.stopPoint = some point →
      let t := h.reportLifted [n]
      (∀ back, point = .atStart back → t = (h.setSquad q (some { r with
        state := match back with
          | .forming => .forming
          | .gameDone => .gameDone,
        stopPoint := none })).removeCause n .allowance) ∧
      (∀ f, point = .atFrame f →
        (r.mode = .openPlay → ∀ place, ∀ j, r.order[place]? = some j → h.toBowl (f + 1) j = true →
          (∀ i, i < place → ∀ m, r.order[i]? = some m → h.toBowl (f + 1) m = false) →
          t.squad q = some { r with frame := f + 1, state := .playing, stopPoint := none, upPosition := some place } ∧
          t.bowler j = (h.bowler j).map (fun b => { b with state := .up }) ∧
          ((h.lane n).keepsCauses = true → (t.lane n).causes = { (h.lane n).causes with allowance := false }) ∧
          t.machine = h.machine) ∧
        (r.mode = .pairPlay → ∀ p, r.partner = some p → p ≠ q → ∀ rp, h.squad p = some rp → rp.state ≠ .stopped →
          t = (h.setSquad q (some { r with state := .frameWait, stopPoint := none })).removeCause n .allowance) ∧
        (r.mode = .pairPlay → ∀ p, r.partner = some p → p ≠ q → ∀ rp, h.squad p = some rp → rp.state = .stopped →
          rp.stopPoint = some (.atFrame f) → rp.mode = .pairPlay → rp.partner = some q → isLane rp.lane = true →
          rp.lane ≠ n → (h.lane rp.lane).squad = some p → (∀ k ∈ r.order, k ∉ rp.order) →
          let first := fun (x : SquadRecord) (place k : Nat) => x.order[place]? = some k ∧ h.toBowl (f + 1) k = true ∧
            ∀ i ∈ List.range place, ∀ m, x.order[i]? = some m → h.toBowl (f + 1) m = false
          ∀ i j, ∀ k, r.order[i]? = some k → ∀ m, rp.order[j]? = some m → first r i k → first rp j m →
          ∀ t ∈ [h.reportLifted [n], h.reportLifted [n, rp.lane], h.reportLifted [rp.lane, n]],
            t.squad q = some { r with
              lane := rp.lane, frame := f + 1, state := .playing, stopPoint := none, upPosition := some i } ∧
            t.squad p = some { rp with
              lane := n, frame := f + 1, state := .playing, stopPoint := none, upPosition := some j } ∧
            (t.lane n).squad = some p ∧ (t.lane rp.lane).squad = some q ∧
            t.bowler k = (h.bowler k).map (fun b => { b with state := .up }) ∧
            t.bowler m = (h.bowler m).map (fun b => { b with state := .up }) ∧
            ((h.lane n).keepsCauses = true → (t.lane n).causes.allowance = false) ∧
            ((h.lane rp.lane).keepsCauses = true → (t.lane rp.lane).causes.allowance = false)))))

/-! ### Meters, charges and bills (chapter 10) -/

/-- The second boundary (R167, R168, R180) and the idle part. The clock goes on by a second, and over midnight to the next
day; each slot of an OPEN tab gains a second in the band in force at the minute of the second just ended (R152), or one of
credited downtime, by its meter condition. A metered second under MINUTES n sets the warning at n less the lead, and the
run-out mark at n minutes, which stops the tab's squads in FORMING and GAME_DONE in the same step (R94). That the timebase
moves to the boundary of the second in progress is log entry 19, and that on a stopped part the clock alone goes on log entry
12. The model's choice (log entry 1): with no command waiting a running part lets a tenth of a second pass, a completed
second is a second boundary, and a reading deadline that has been reached acts first. -/
def Obligations.TimePassesInTenthsAndSeconds : Prop :=
  (∀ s : State, s.house.quiet → s.house.runs = true →
      (∀ a ∈ numbers 64, ∀ r, s.house.tab a = some r → ∀ n, r.allowance ≠ .minutes n) →
      ∃ t, exec .secondBoundary s = .next t ∧ t.pending = s.pending ∧
        t.house.clock.timebase = s.house.clock.timebase + (10 - s.house.clock.phase) ∧ t.house.clock.phase = 0 ∧
        t.house.clock.isSet = s.house.clock.isSet ∧
        (s.house.clock.time < 86399 →
          t.house.clock.time = s.house.clock.time + 1 ∧ t.house.clock.day = s.house.clock.day) ∧
        (s.house.clock.time = 86399 → t.house.clock.time = 0 ∧
          t.house.clock.day = if s.house.clock.day < 65535 then s.house.clock.day + 1 else 0) ∧
        (∀ a r, s.house.tab a = some r → r.state = .opened →
          let band := bandAt (((s.house.plan r.plan).map (·.bands)).getD []) (s.house.clock.time / 60)
          t.house.tab a = some { r with slots := r.slots.map fun m =>
            if m.attached = true ∧ m.condition = some .metering then
              { m with bandSeconds := m.bandSeconds.set band (min ((m.bandSeconds.getD band 0) + 1) 9999999) }
            else if m.attached = true ∧ m.condition = some .crediting then
              { m with downtime := min (m.downtime + 1) 9999999 }
            else m }) ∧
        (∀ a r, s.house.tab a = some r → r.state = .due → t.house.tab a = some r) ∧
        t.house = { s.house with tabs := t.house.tabs, clock := t.house.clock }) ∧
  (∀ s : State, s.house.runs = false →
    let c := s.house.clock
    (c.time < 86399 →
      Becomes s .secondBoundary { s.house with clock := { c with phase := 0, time := c.time + 1 } }) ∧
    (c.time = 86399 → Becomes s .secondBoundary { s.house with clock := { c with
      phase := 0, time := 0, day := if c.day < 65535 then c.day + 1 else 0 } })) ∧
  (∀ (bands : List Band) (m : Nat), bands ≠ [] → bands.Pairwise (fun a b => a.start < b.start) →
      let i := bandAt bands m
      i < bands.length ∧
        ((∃ b ∈ bands, b.start ≤ m) → (∀ b, bands[i]? = some b → b.start ≤ m) ∧
          ∀ b ∈ bands.drop (i + 1), m < b.start) ∧
        ((∀ b ∈ bands, m < b.start) → i = bands.length - 1)) ∧
  (∀ (s : State) (a : Nat), s.house.quiet → s.house.runs = true → ∀ r, s.house.tab a = some r → r.state = .opened →
      ∀ n, r.allowance = .minutes n →
      (∀ b ∈ numbers 64, b ≠ a → ∀ x, s.house.tab b = some x → ∀ n, x.allowance ≠ .minutes n) →
      let metered := r.second (bandAt (((s.house.plan r.plan).map (·.bands)).getD []) (s.house.clock.time / 60))
      ∃ t, exec .secondBoundary s = .next t ∧ t.pending = s.pending ∧
        t.house.tabOf a = some { metered with slots := [] } ∧
        (metered.runOut = r.runOut →
          t.house.tab a = some metered ∧ t.house.squads = s.house.squads ∧ t.house.lanes = s.house.lanes) ∧
        (metered.runOut ≠ r.runOut → ∀ m ∈ r.slots, m.attached = true → ∀ q, (s.house.lane m.lane).squad = some q →
          ∀ x, s.house.squad q = some x →
          (x.state ≠ .forming → x.state ≠ .gameDone → t.house.squad q = some x) ∧
          ((x.state = .forming ∨ x.state = .gameDone) → x.stopPoint = none →
            t.house.squad q = some { x with
              state := .stopped, upPosition := none,
              stopPoint := some (.atStart (if x.state = .forming then .forming else .gameDone)) } ∧
            (isLane x.lane = true → (s.house.lane x.lane).keepsCauses = true →
              (t.house.lane x.lane).causes.allowance = true))) ∧
        t.house.bowlers = s.house.bowlers ∧ t.house.machine = s.house.machine) ∧
  (∀ (r : TabRecord) (band n : Nat), r.allowance = .minutes n → r.slots.any MeterSlot.meters = true →
      let t := r.second band
      let some_slot := fun (seconds : Nat) => t.slots.any fun m => decide (seconds ≤ m.bandSeconds.foldl (· + ·) 0)
      t.slots = r.slots.map (fun m =>
          if m.attached = true ∧ m.condition = some .metering then
            { m with bandSeconds := m.bandSeconds.set band (min ((m.bandSeconds.getD band 0) + 1) 9999999) }
          else if m.attached = true ∧ m.condition = some .crediting then
            { m with downtime := min (m.downtime + 1) 9999999 }
          else m) ∧
        (t.warning = if r.warning = .none ∧ some_slot ((n - r.lead) * 60) = true then .set else r.warning) ∧
        t.runOut = (r.runOut || some_slot (n * 60)) ∧ t.gamesStarted = r.gamesStarted ∧ t.gameCharges = r.gameCharges) ∧
  ((∀ h : House, h.runs = true → h.due = none → h.clock.phase < 9 →
      step ⟨h, []⟩ = .next ⟨{ h with clock := { h.clock with
        timebase := h.clock.timebase + 1, phase := h.clock.phase + 1 } }, []⟩) ∧
    (∀ h : House, h.runs = true → h.due = none → 9 ≤ h.clock.phase → step ⟨h, []⟩ = exec .secondBoundary ⟨h, []⟩) ∧
    (∀ (h : House) (n : Nat) (d : Delivery), h.runs = true → isLane n = true →
      (∀ m ∈ numbers (n - 1), h.laneDue m = none) → (h.lane n).delivery = some d → h.reached d.deadline = true →
      step ⟨h, []⟩ = exec (.readingDeadline n) ⟨h, []⟩))

/-- The units of a TIME band (R170): the quotient of the seconds by the increment is rounded down, up, or to the nearest
with a half rounded up; the rounded-up mark says that the units exceed it; and under a GAME plan units, charge and marks are
clear. -/
def Obligations.BandSecondsAreRoundedToUnits : Prop :=
  ∀ (p : RatePlan) (b : Band) (s : Nat), 1 ≤ p.increment →
    let l := bandLine p b s
    let d := p.increment * 60
    l.seconds = s ∧ l.start = b.start ∧ l.price = b.price ∧
    (p.kind = .game → l.units = 0 ∧ l.charge = 0 ∧ l.roundedUp = false ∧ l.held = false) ∧
    (p.kind = .time →
      (p.rounding = .down → l.units * d ≤ s ∧ s < (l.units + 1) * d) ∧
      (p.rounding = .up → s ≤ l.units * d ∧ ∀ u, s ≤ u * d → l.units ≤ u) ∧
      (p.rounding = .nearest → 2 * l.units * d ≤ 2 * s + d ∧ 2 * s + d < 2 * (l.units + 1) * d) ∧
      (l.roundedUp = true ↔ s < l.units * d) ∧
      l.charge = min (l.units * b.price) 9999999 ∧ (l.held = true ↔ 9999999 < l.units * b.price))

/-- A bill has a line for each slot of its tab, with a band line for each band of its plan (10 TABLE 2). Its sums (R171): the
parts add up, the minimum is charged only under a TIME plan with some second metered, and every amount is at most 9,999,999
cents. -/
def Obligations.BillSumsAddUpAndAreHeld : Prop :=
  ∀ (a : Nat) (r : TabRecord) (p : RatePlan) (stamp : Option Stamp), r.gameCharges.amount ≤ 9999999 → p.minimum ≤ 99999 →
    let b := computeBill a r p stamp
    let lines := b.slots.flatMap (·.bands)
    let sum := (lines.map (·.charge)).foldl (· + ·) 0
    let items := (r.items.map fun e => e.quantity * e.price).foldl (· + ·) 0
    b.tab = a ∧ b.plan = r.plan ∧ b.computedAt = stamp ∧ b.gamesStarted = r.gamesStarted ∧
    ((∀ m ∈ r.slots, m.bandSeconds.length = p.bands.length) → b.slots = r.slots.map fun m =>
      { lane := m.lane, attached := m.attached, downtime := m.downtime,
        bands := List.zipWith (bandLine p) p.bands m.bandSeconds }) ∧
    b.beforeMinimum.amount = min sum 9999999 ∧
    (b.beforeMinimum.held = true ↔ 9999999 < sum ∨ ∃ l ∈ lines, l.held = true) ∧
    (b.minimumApplied = true ↔
      p.kind = .time ∧ b.beforeMinimum.amount < p.minimum ∧ ∃ l ∈ lines, 0 < l.seconds) ∧
    b.timeCharge = (if p.kind = .game then 0 else if b.minimumApplied then p.minimum else b.beforeMinimum.amount) ∧
    b.gameCharges = r.gameCharges ∧
    b.items = (r.items.map fun e =>
      { code := e.code, quantity := e.quantity, price := e.price, amount := e.quantity * e.price }) ∧
    b.itemsTotal.amount = min items 9999999 ∧ (b.itemsTotal.held = true ↔ 9999999 < items) ∧
    b.total.amount = min (r.gameCharges.amount + b.timeCharge + b.itemsTotal.amount) 9999999 ∧
    (b.total.held = true ↔ 9999999 < r.gameCharges.amount + b.timeCharge + b.itemsTotal.amount ∨
      r.gameCharges.held = true ∨ b.beforeMinimum.held = true ∨ b.itemsTotal.held = true) ∧
    b.timeCharge ≤ 9999999 ∧ (∀ l ∈ lines, l.charge ≤ 9999999) ∧ b.total.amount ≤ 9999999

/-! ### The two links (sections 11.1 to 11.3) -/

/-- The receive framing (R175) and the header checks (R176): a byte begins a frame in HUNT only where it is the start byte,
a header whose body length is above 120 drops the frame, the line events drop a partly gathered frame, a whole frame with a good check is handed on and one with another check is
dropped, a frame of an origin that does not exist is refused BAD_REQUEST, and a frame whose body is that of a request does
what the request does. The layout of a request's body is a free value of the model (log entry 3). -/
def Obligations.HouseFramesAreGatheredAndHandedOn : Prop :=
  (∀ s : State, s.house.quiet → s.house.runs = true →
    let h := s.house
    let hunting : House := { h with port := { h.port with framing := .hunt, gathered := [] } }
    (∀ b : Byte, h.port.framing = .hunt → b ≠ 0xA5#8 → Becomes s (.receiveByte b) h) ∧
    (h.port.framing = .hunt →
      Becomes s (.receiveByte 0xA5#8) { h with port := { h.port with framing := .header, gathered := [] } }) ∧
    Becomes s .frameDropped hunting ∧ Becomes s .linkClear hunting ∧
    (h.port.framing ≠ .hunt → Becomes s .frameGapTimeout hunting) ∧
    (h.port.framing = .hunt → Becomes s .frameGapTimeout h) ∧
    (∀ sequence : Byte, h.memory.restartOwed = false → Becomes s (.headerRefused sequence)
      (hunting.answer { sequence := sequence, result := .refused .badRequest, body := .empty }))) ∧
  (∀ (h : House) (kind number code sequence length : Byte), h.port.framing = .hunt → 120 < length.toNat →
    [0xA5#8, kind, number, code, sequence, length].foldl House.takeByte h = h.hunt) ∧
  ∀ (h : House) (kind number code sequence : Byte) (body : List Byte), h.port.framing = .hunt →
    h.memory.restartOwed = false → body.length ≤ 120 →
    let whole := (0xA5#8 :: requestFrame kind number code sequence body).foldl House.takeByte h
    let bad : Answer := { sequence := sequence, result := .refused .badRequest, body := .empty }
    whole = h.hunt.handOn kind number code sequence body ∧
    (∀ check : BitVec 16, halfBytes check ≠ halfBytes (crc ([kind, number, code, sequence, BitVec.ofNat 8 body.length] ++ body)) →
      (0xA5#8 :: ([kind, number, code, sequence, BitVec.ofNat 8 body.length] ++ body ++ halfBytes check)).foldl House.takeByte h =
        h.hunt) ∧
    (2 < kind.toNat → whole = h.hunt.answer bad) ∧
    (kind = 0#8 → number ≠ 0#8 → whole = h.hunt.answer bad) ∧
    (kind = 1#8 → isPair number.toNat = false → whole = h.hunt.answer bad) ∧
    (kind = 2#8 → (number.toNat < 1 ∨ 4 < number.toNat) → whole = h.hunt.answer bad) ∧
    ∀ (o : Origin) (c : Instr) (pending : List Instr), originOf kind number = some o →
      Config.readBody code.toNat { origin := o, sequence := sequence } body = some c →
      (asRequest c).map (fun p => (p.code, p.header)) = some (code.toNat, { origin := o, sequence := sequence }) →
      h.runs = true → exec c { house := h.hunt, pending := pending } = .next { house := whole, pending := pending }

/-- Polls and their absence of an answer (R178, R9, R47, R19, R134): the module next in turn is polled with its sequence and
every order of its buffer; a poll without an answer counts on a present module, and the third declares it absent, which
holds the lanes of its pair with LINK and drops their work in flight. An order given to a present module is appended to its
buffer, and one that finds 8 orders there is not, and its module is declared absent as above by the end of the step (log
entry 8). That POLL_NO_ANSWER with no poll owed an answer does nothing is log entry 15. -/
def Obligations.PollsAreSentAndMissed : Prop :=
  let lost := fun (p : Nat) (h t : House) =>
    t.slot p = { h.slot p with present := false, unanswered := 0, orders := [], overflowed := false } ∧
    (∀ q, q ≠ p → t.slot q = h.slot q) ∧ t.machine.turn = h.machine.turn ∧
    (∀ n ∈ [2 * p - 1, 2 * p],
      let l := h.lane n
      let dropped := { l with
        delivery := none, cycle := none, repeatOwed := false, deck := DeckState.empty, standing := noPins }
      ((l.mode = .out ∨ l.mode = .dark) → t.lane n = l) ∧
      (l.mode = .closing → t.lane n = dropped) ∧
      (l.keepsCauses = true → l.causes.link = false → t.lane n = { dropped with
        mode := if l.mode = .live then .held else l.mode, causes := { l.causes with link := true },
        warmUp := if l.mode = .warming then none else l.warmUp, foulMark := none, recoveryOwed := false,
        context := l.context.map fun r => { r with holdsDelivery := false } })) ∧
    (∀ n, n ∉ [2 * p - 1, 2 * p] → t.lane n = h.lane n) ∧
    t.ret p = { h.ret p with deadline := none } ∧
    t.bowlers = h.bowlers ∧ t.squads = h.squads ∧ t.calls = h.calls ∧ t.clock = h.clock
  (∀ s : State, s.house.quiet → s.house.runs = true →
    let h := s.house
    (h.machine.pollOut = none → isPair h.machine.turn = true →
      let p := h.machine.turn
      let m := h.slot p
      Becomes s .poll { h with machine := { h.machine with
        turn := if p = 24 then 1 else p + 1,
        pollOut := some { pair := p, sequence := m.sequence, carried := m.orders.length },
        lastFrame := 0x5A#8 :: closeFrame
          ([BitVec.ofNat 8 p, controlByte m.sequence (!m.present), BitVec.ofNat 8 m.orders.length] ++
            m.orders.flatMap MachineOrder.bytes) } }) ∧
    (h.machine.pollOut = none → Becomes s .pollNoAnswer h) ∧
    (∀ out, h.machine.pollOut = some out → isPair out.pair = true →
      let m := h.slot out.pair
      let ended : House := { h with machine := { h.machine with pollOut := none } }
      (m.present = false → Becomes s .pollNoAnswer ended) ∧
      (m.present = true → m.unanswered < 2 →
        Becomes s .pollNoAnswer (ended.setSlot out.pair { m with unanswered := m.unanswered + 1 })) ∧
      (m.present = true → 2 ≤ m.unanswered → ∃ t, exec .pollNoAnswer s = .next t ∧ t.pending = s.pending ∧
        lost out.pair h t.house ∧ t.house.machine.pollOut = none))) ∧
  ∀ (h : House) (n : Nat) (o : OrderKind), isLane n = true →
    let p := pairOf n
    let m := h.slot p
    (m.present = false → h.giveOrder n o = h) ∧
    (m.present = true → m.orders.length < 8 → h.giveOrder n o = h.setSlot p (m.ordered n o)) ∧
    (m.present = true → 8 ≤ m.orders.length → (∀ q ∈ numbers 24, (h.slot q).overflowed = false) →
      (h.giveOrder n o).lanes = h.lanes ∧ lost p h (h.giveOrder n o).settle)

/-- The answer of a module is read back as the events it was written from, and it is taken in order (R178, R179, 11 TABLES 6
and 7): the orders carried leave the buffer, the sequence is inverted, and each event is delivered, but for those of an
absent module whose first event is not PRESENT. Each event is taken as its command is, at the lane or the pair it names; one
of a kind that 11 TABLE 7 does not have is discarded and the rest are delivered; and BALL_BACK and RETURN_FAULT are pair
events whatever lane they name. Bytes that are not such an answer count as no answer. What counts as no answer, and that an
answer with no poll owed one does nothing, is log entry 15; that a malformed event is no PRESENT is log entry 39. -/
def Obligations.PollAnswersDeliverTheirEvents : Prop :=
  (∀ (out : PollOut) (events : List ModuleEvent), isPair out.pair = true → events.length ≤ 8 →
    answerEvents out (answerFrame out events) = some (events.flatMap ModuleEvent.bytes) ∧
    eventsOf (events.flatMap ModuleEvent.bytes) = events.map some) ∧
  (∀ (even valued : Bool) (b c : Byte), eventsOf [eventByte even valued 8#4, b, c] = [some .ballBack] ∧
    eventsOf [eventByte even valued 9#4, b, c] = [some .returnFault]) ∧
  (∀ (h : House) (pending : List Instr) (p : Nat) (e : ModuleEvent), isPair p = true → h.runs = true →
    ((h.slot p).present = true ∨ e.isPresent = true) →
    exec (e.command p) { house := h, pending := pending } = .next { house := (h.deliver p e).settle, pending := pending }) ∧
  ∀ s : State, s.house.quiet → s.house.runs = true →
    let h := s.house
    (∀ frame : List Byte, h.machine.pollOut = none → Becomes s (.pollAnswer frame) h) ∧
    ∀ out, h.machine.pollOut = some out → isPair out.pair = true →
      let m := h.slot out.pair
      let taken := ({ h with machine := { h.machine with pollOut := none } } : House).setSlot out.pair
        { m with orders := m.orders.drop out.carried, sequence := !m.sequence, unanswered := 0 }
      (∀ events : List ModuleEvent, events.length ≤ 8 →
        ((m.present = true ∨ (events.head?.map ModuleEvent.isPresent) = some true) →
          Becomes s (.pollAnswer (answerFrame out events)) (events.foldl (fun h e => h.deliver out.pair e) taken).settle) ∧
        (m.present = false → (events.head?.map ModuleEvent.isPresent) ≠ some true →
          Becomes s (.pollAnswer (answerFrame out events)) taken)) ∧
      (∀ (before after : List ModuleEvent) (b c d : Byte), before.length + 1 + after.length ≤ 8 →
        ((b &&& 15#8) = 0#8 ∨ 9#8 < (b &&& 15#8)) →
        (m.present = true ∨ (before.head?.map ModuleEvent.isPresent) = some true) →
        Becomes s (.pollAnswer (rawAnswer out (before.length + 1 + after.length)
            (before.flatMap ModuleEvent.bytes ++ [b, c, d] ++ after.flatMap ModuleEvent.bytes)))
          ((before ++ after).foldl (fun h e => h.deliver out.pair e) taken).settle) ∧
      ∀ frame : List Byte,
        (checks (frame.drop 1) = false ∨ frame.take 2 ≠ [0x5A#8, BitVec.ofNat 8 out.pair] ∨
          (frame.getD 2 0#8).getLsbD 0 ≠ out.sequence ∨ frame.length ≠ 6 + 3 * (frame.getD 3 0#8).toNat ∨
          8 < (frame.getD 3 0#8).toNat) →
        exec (.pollAnswer frame) s = exec .pollNoAnswer s
end

