-- ==== Sys2Proof/Laws/State.lean ====
section
/-! SUPPORT. The field lemmas of the state: for each named update of the house, of a lane record and of the other records,
what each field reads after it. Every one is true by unfolding the update once, so that no later proof unfolds it. -/

namespace Sys2Proof.Machine

open Sys2Proof

/-! ### The state -/

@[simp] theorem State.withHouse_house (s : State) (h : House) : (s.withHouse h).house = h := rfl
@[simp] theorem State.withHouse_pending (s : State) (h : House) : (s.withHouse h).pending = s.pending := rfl
@[simp] theorem State.withHouse_withHouse (s : State) (h k : House) : (s.withHouse h).withHouse k = s.withHouse k := rfl
@[simp] theorem State.withHouse_self (s : State) : s.withHouse s.house = s := rfl
@[simp] theorem State.reset_pending : State.reset.pending = [] := rfl

/-! ### The updates of the house -/

@[simp] theorem House.setLane_lanes (h : House) (n : Nat) (l : LaneRecord) :
    (h.setLane n l).lanes = numSet h.lanes n l := rfl
@[simp] theorem House.setLane_bowlers (h : House) (n : Nat) (l : LaneRecord) :
    (h.setLane n l).bowlers = h.bowlers := rfl
@[simp] theorem House.setLane_squads (h : House) (n : Nat) (l : LaneRecord) :
    (h.setLane n l).squads = h.squads := rfl
@[simp] theorem House.setLane_returns (h : House) (n : Nat) (l : LaneRecord) :
    (h.setLane n l).returns = h.returns := rfl
@[simp] theorem House.setLane_calls (h : House) (n : Nat) (l : LaneRecord) :
    (h.setLane n l).calls = h.calls := rfl
@[simp] theorem House.setLane_tabs (h : House) (n : Nat) (l : LaneRecord) :
    (h.setLane n l).tabs = h.tabs := rfl
@[simp] theorem House.setLane_plans (h : House) (n : Nat) (l : LaneRecord) :
    (h.setLane n l).plans = h.plans := rfl
@[simp] theorem House.setLane_machine (h : House) (n : Nat) (l : LaneRecord) :
    (h.setLane n l).machine = h.machine := rfl
@[simp] theorem House.setLane_port (h : House) (n : Nat) (l : LaneRecord) :
    (h.setLane n l).port = h.port := rfl
@[simp] theorem House.setLane_clock (h : House) (n : Nat) (l : LaneRecord) :
    (h.setLane n l).clock = h.clock := rfl
@[simp] theorem House.setLane_memory (h : House) (n : Nat) (l : LaneRecord) :
    (h.setLane n l).memory = h.memory := rfl

@[simp] theorem House.setBowler_lanes (h : House) (k : Nat) (b : Option BowlerRecord) :
    (h.setBowler k b).lanes = h.lanes := rfl
@[simp] theorem House.setBowler_bowlers (h : House) (k : Nat) (b : Option BowlerRecord) :
    (h.setBowler k b).bowlers = numSet h.bowlers k b := rfl
@[simp] theorem House.setBowler_squads (h : House) (k : Nat) (b : Option BowlerRecord) :
    (h.setBowler k b).squads = h.squads := rfl
@[simp] theorem House.setBowler_returns (h : House) (k : Nat) (b : Option BowlerRecord) :
    (h.setBowler k b).returns = h.returns := rfl
@[simp] theorem House.setBowler_calls (h : House) (k : Nat) (b : Option BowlerRecord) :
    (h.setBowler k b).calls = h.calls := rfl
@[simp] theorem House.setBowler_tabs (h : House) (k : Nat) (b : Option BowlerRecord) :
    (h.setBowler k b).tabs = h.tabs := rfl
@[simp] theorem House.setBowler_plans (h : House) (k : Nat) (b : Option BowlerRecord) :
    (h.setBowler k b).plans = h.plans := rfl
@[simp] theorem House.setBowler_machine (h : House) (k : Nat) (b : Option BowlerRecord) :
    (h.setBowler k b).machine = h.machine := rfl
@[simp] theorem House.setBowler_port (h : House) (k : Nat) (b : Option BowlerRecord) :
    (h.setBowler k b).port = h.port := rfl
@[simp] theorem House.setBowler_clock (h : House) (k : Nat) (b : Option BowlerRecord) :
    (h.setBowler k b).clock = h.clock := rfl
@[simp] theorem House.setBowler_memory (h : House) (k : Nat) (b : Option BowlerRecord) :
    (h.setBowler k b).memory = h.memory := rfl

@[simp] theorem House.setSquad_lanes (h : House) (q : Nat) (r : Option SquadRecord) :
    (h.setSquad q r).lanes = h.lanes := rfl
@[simp] theorem House.setSquad_bowlers (h : House) (q : Nat) (r : Option SquadRecord) :
    (h.setSquad q r).bowlers = h.bowlers := rfl
@[simp] theorem House.setSquad_squads (h : House) (q : Nat) (r : Option SquadRecord) :
    (h.setSquad q r).squads = numSet h.squads q r := rfl
@[simp] theorem House.setSquad_returns (h : House) (q : Nat) (r : Option SquadRecord) :
    (h.setSquad q r).returns = h.returns := rfl
@[simp] theorem House.setSquad_calls (h : House) (q : Nat) (r : Option SquadRecord) :
    (h.setSquad q r).calls = h.calls := rfl
@[simp] theorem House.setSquad_tabs (h : House) (q : Nat) (r : Option SquadRecord) :
    (h.setSquad q r).tabs = h.tabs := rfl
@[simp] theorem House.setSquad_plans (h : House) (q : Nat) (r : Option SquadRecord) :
    (h.setSquad q r).plans = h.plans := rfl
@[simp] theorem House.setSquad_machine (h : House) (q : Nat) (r : Option SquadRecord) :
    (h.setSquad q r).machine = h.machine := rfl
@[simp] theorem House.setSquad_port (h : House) (q : Nat) (r : Option SquadRecord) :
    (h.setSquad q r).port = h.port := rfl
@[simp] theorem House.setSquad_clock (h : House) (q : Nat) (r : Option SquadRecord) :
    (h.setSquad q r).clock = h.clock := rfl
@[simp] theorem House.setSquad_memory (h : House) (q : Nat) (r : Option SquadRecord) :
    (h.setSquad q r).memory = h.memory := rfl

@[simp] theorem House.setTab_lanes (h : House) (t : Nat) (r : Option TabRecord) :
    (h.setTab t r).lanes = h.lanes := rfl
@[simp] theorem House.setTab_bowlers (h : House) (t : Nat) (r : Option TabRecord) :
    (h.setTab t r).bowlers = h.bowlers := rfl
@[simp] theorem House.setTab_squads (h : House) (t : Nat) (r : Option TabRecord) :
    (h.setTab t r).squads = h.squads := rfl
@[simp] theorem House.setTab_returns (h : House) (t : Nat) (r : Option TabRecord) :
    (h.setTab t r).returns = h.returns := rfl
@[simp] theorem House.setTab_calls (h : House) (t : Nat) (r : Option TabRecord) :
    (h.setTab t r).calls = h.calls := rfl
@[simp] theorem House.setTab_tabs (h : House) (t : Nat) (r : Option TabRecord) :
    (h.setTab t r).tabs = numSet h.tabs t r := rfl
@[simp] theorem House.setTab_plans (h : House) (t : Nat) (r : Option TabRecord) :
    (h.setTab t r).plans = h.plans := rfl
@[simp] theorem House.setTab_machine (h : House) (t : Nat) (r : Option TabRecord) :
    (h.setTab t r).machine = h.machine := rfl
@[simp] theorem House.setTab_port (h : House) (t : Nat) (r : Option TabRecord) :
    (h.setTab t r).port = h.port := rfl
@[simp] theorem House.setTab_clock (h : House) (t : Nat) (r : Option TabRecord) :
    (h.setTab t r).clock = h.clock := rfl
@[simp] theorem House.setTab_memory (h : House) (t : Nat) (r : Option TabRecord) :
    (h.setTab t r).memory = h.memory := rfl

@[simp] theorem House.setPlan_lanes (h : House) (p : Nat) (r : Option RatePlan) :
    (h.setPlan p r).lanes = h.lanes := rfl
@[simp] theorem House.setPlan_bowlers (h : House) (p : Nat) (r : Option RatePlan) :
    (h.setPlan p r).bowlers = h.bowlers := rfl
@[simp] theorem House.setPlan_squads (h : House) (p : Nat) (r : Option RatePlan) :
    (h.setPlan p r).squads = h.squads := rfl
@[simp] theorem House.setPlan_returns (h : House) (p : Nat) (r : Option RatePlan) :
    (h.setPlan p r).returns = h.returns := rfl
@[simp] theorem House.setPlan_calls (h : House) (p : Nat) (r : Option RatePlan) :
    (h.setPlan p r).calls = h.calls := rfl
@[simp] theorem House.setPlan_tabs (h : House) (p : Nat) (r : Option RatePlan) :
    (h.setPlan p r).tabs = h.tabs := rfl
@[simp] theorem House.setPlan_plans (h : House) (p : Nat) (r : Option RatePlan) :
    (h.setPlan p r).plans = numSet h.plans (p + 1) r := rfl
@[simp] theorem House.setPlan_machine (h : House) (p : Nat) (r : Option RatePlan) :
    (h.setPlan p r).machine = h.machine := rfl
@[simp] theorem House.setPlan_port (h : House) (p : Nat) (r : Option RatePlan) :
    (h.setPlan p r).port = h.port := rfl
@[simp] theorem House.setPlan_clock (h : House) (p : Nat) (r : Option RatePlan) :
    (h.setPlan p r).clock = h.clock := rfl
@[simp] theorem House.setPlan_memory (h : House) (p : Nat) (r : Option RatePlan) :
    (h.setPlan p r).memory = h.memory := rfl

@[simp] theorem House.setRet_lanes (h : House) (p : Nat) (r : ReturnRecord) :
    (h.setRet p r).lanes = h.lanes := rfl
@[simp] theorem House.setRet_bowlers (h : House) (p : Nat) (r : ReturnRecord) :
    (h.setRet p r).bowlers = h.bowlers := rfl
@[simp] theorem House.setRet_squads (h : House) (p : Nat) (r : ReturnRecord) :
    (h.setRet p r).squads = h.squads := rfl
@[simp] theorem House.setRet_returns (h : House) (p : Nat) (r : ReturnRecord) :
    (h.setRet p r).returns = numSet h.returns p r := rfl
@[simp] theorem House.setRet_calls (h : House) (p : Nat) (r : ReturnRecord) :
    (h.setRet p r).calls = h.calls := rfl
@[simp] theorem House.setRet_tabs (h : House) (p : Nat) (r : ReturnRecord) :
    (h.setRet p r).tabs = h.tabs := rfl
@[simp] theorem House.setRet_plans (h : House) (p : Nat) (r : ReturnRecord) :
    (h.setRet p r).plans = h.plans := rfl
@[simp] theorem House.setRet_machine (h : House) (p : Nat) (r : ReturnRecord) :
    (h.setRet p r).machine = h.machine := rfl
@[simp] theorem House.setRet_port (h : House) (p : Nat) (r : ReturnRecord) :
    (h.setRet p r).port = h.port := rfl
@[simp] theorem House.setRet_clock (h : House) (p : Nat) (r : ReturnRecord) :
    (h.setRet p r).clock = h.clock := rfl
@[simp] theorem House.setRet_memory (h : House) (p : Nat) (r : ReturnRecord) :
    (h.setRet p r).memory = h.memory := rfl

@[simp] theorem House.setSlot_lanes (h : House) (p : Nat) (m : ModuleSlot) :
    (h.setSlot p m).lanes = h.lanes := rfl
@[simp] theorem House.setSlot_bowlers (h : House) (p : Nat) (m : ModuleSlot) :
    (h.setSlot p m).bowlers = h.bowlers := rfl
@[simp] theorem House.setSlot_squads (h : House) (p : Nat) (m : ModuleSlot) :
    (h.setSlot p m).squads = h.squads := rfl
@[simp] theorem House.setSlot_returns (h : House) (p : Nat) (m : ModuleSlot) :
    (h.setSlot p m).returns = h.returns := rfl
@[simp] theorem House.setSlot_calls (h : House) (p : Nat) (m : ModuleSlot) :
    (h.setSlot p m).calls = h.calls := rfl
@[simp] theorem House.setSlot_tabs (h : House) (p : Nat) (m : ModuleSlot) :
    (h.setSlot p m).tabs = h.tabs := rfl
@[simp] theorem House.setSlot_plans (h : House) (p : Nat) (m : ModuleSlot) :
    (h.setSlot p m).plans = h.plans := rfl
@[simp] theorem House.setSlot_machine (h : House) (p : Nat) (m : ModuleSlot) :
    (h.setSlot p m).machine = { h.machine with slots := numSet h.machine.slots p m } := rfl
@[simp] theorem House.setSlot_port (h : House) (p : Nat) (m : ModuleSlot) :
    (h.setSlot p m).port = h.port := rfl
@[simp] theorem House.setSlot_clock (h : House) (p : Nat) (m : ModuleSlot) :
    (h.setSlot p m).clock = h.clock := rfl
@[simp] theorem House.setSlot_memory (h : House) (p : Nat) (m : ModuleSlot) :
    (h.setSlot p m).memory = h.memory := rfl

@[simp] theorem House.setUnqueued_lanes (h : House) (n : Nat) (u : UnqueuedSet) :
    (h.setUnqueued n u).lanes = h.lanes := rfl
@[simp] theorem House.setUnqueued_bowlers (h : House) (n : Nat) (u : UnqueuedSet) :
    (h.setUnqueued n u).bowlers = h.bowlers := rfl
@[simp] theorem House.setUnqueued_squads (h : House) (n : Nat) (u : UnqueuedSet) :
    (h.setUnqueued n u).squads = h.squads := rfl
@[simp] theorem House.setUnqueued_returns (h : House) (n : Nat) (u : UnqueuedSet) :
    (h.setUnqueued n u).returns = h.returns := rfl
@[simp] theorem House.setUnqueued_calls (h : House) (n : Nat) (u : UnqueuedSet) :
    (h.setUnqueued n u).calls = { h.calls with unqueued := numSet h.calls.unqueued n u } := rfl
@[simp] theorem House.setUnqueued_tabs (h : House) (n : Nat) (u : UnqueuedSet) :
    (h.setUnqueued n u).tabs = h.tabs := rfl
@[simp] theorem House.setUnqueued_plans (h : House) (n : Nat) (u : UnqueuedSet) :
    (h.setUnqueued n u).plans = h.plans := rfl
@[simp] theorem House.setUnqueued_machine (h : House) (n : Nat) (u : UnqueuedSet) :
    (h.setUnqueued n u).machine = h.machine := rfl
@[simp] theorem House.setUnqueued_port (h : House) (n : Nat) (u : UnqueuedSet) :
    (h.setUnqueued n u).port = h.port := rfl
@[simp] theorem House.setUnqueued_clock (h : House) (n : Nat) (u : UnqueuedSet) :
    (h.setUnqueued n u).clock = h.clock := rfl
@[simp] theorem House.setUnqueued_memory (h : House) (n : Nat) (u : UnqueuedSet) :
    (h.setUnqueued n u).memory = h.memory := rfl

@[simp] theorem House.answer_lanes (h : House) (a : Answer):
    (h.answer a).lanes = h.lanes := rfl
@[simp] theorem House.answer_bowlers (h : House) (a : Answer):
    (h.answer a).bowlers = h.bowlers := rfl
@[simp] theorem House.answer_squads (h : House) (a : Answer):
    (h.answer a).squads = h.squads := rfl
@[simp] theorem House.answer_returns (h : House) (a : Answer):
    (h.answer a).returns = h.returns := rfl
@[simp] theorem House.answer_calls (h : House) (a : Answer):
    (h.answer a).calls = h.calls := rfl
@[simp] theorem House.answer_tabs (h : House) (a : Answer):
    (h.answer a).tabs = h.tabs := rfl
@[simp] theorem House.answer_plans (h : House) (a : Answer):
    (h.answer a).plans = h.plans := rfl
@[simp] theorem House.answer_machine (h : House) (a : Answer):
    (h.answer a).machine = h.machine := rfl
@[simp] theorem House.answer_port (h : House) (a : Answer):
    (h.answer a).port = { h.port with answers := h.port.answers ++ [a] } := rfl
@[simp] theorem House.answer_clock (h : House) (a : Answer):
    (h.answer a).clock = h.clock := rfl
@[simp] theorem House.answer_memory (h : House) (a : Answer):
    (h.answer a).memory = h.memory := rfl

@[simp] theorem House.hunt_lanes (h : House) :
    h.hunt.lanes = h.lanes := rfl
@[simp] theorem House.hunt_bowlers (h : House) :
    h.hunt.bowlers = h.bowlers := rfl
@[simp] theorem House.hunt_squads (h : House) :
    h.hunt.squads = h.squads := rfl
@[simp] theorem House.hunt_returns (h : House) :
    h.hunt.returns = h.returns := rfl
@[simp] theorem House.hunt_calls (h : House) :
    h.hunt.calls = h.calls := rfl
@[simp] theorem House.hunt_tabs (h : House) :
    h.hunt.tabs = h.tabs := rfl
@[simp] theorem House.hunt_plans (h : House) :
    h.hunt.plans = h.plans := rfl
@[simp] theorem House.hunt_machine (h : House) :
    h.hunt.machine = h.machine := rfl
@[simp] theorem House.hunt_port (h : House) :
    h.hunt.port = { h.port with framing := .hunt, gathered := [] } := rfl
@[simp] theorem House.hunt_clock (h : House) :
    h.hunt.clock = h.clock := rfl
@[simp] theorem House.hunt_memory (h : House) :
    h.hunt.memory = h.memory := rfl

@[simp] theorem House.gather_lanes (h : House) (f : Framing) (b : List Byte):
    (h.gather f b).lanes = h.lanes := rfl
@[simp] theorem House.gather_bowlers (h : House) (f : Framing) (b : List Byte):
    (h.gather f b).bowlers = h.bowlers := rfl
@[simp] theorem House.gather_squads (h : House) (f : Framing) (b : List Byte):
    (h.gather f b).squads = h.squads := rfl
@[simp] theorem House.gather_returns (h : House) (f : Framing) (b : List Byte):
    (h.gather f b).returns = h.returns := rfl
@[simp] theorem House.gather_calls (h : House) (f : Framing) (b : List Byte):
    (h.gather f b).calls = h.calls := rfl
@[simp] theorem House.gather_tabs (h : House) (f : Framing) (b : List Byte):
    (h.gather f b).tabs = h.tabs := rfl
@[simp] theorem House.gather_plans (h : House) (f : Framing) (b : List Byte):
    (h.gather f b).plans = h.plans := rfl
@[simp] theorem House.gather_machine (h : House) (f : Framing) (b : List Byte):
    (h.gather f b).machine = h.machine := rfl
@[simp] theorem House.gather_port (h : House) (f : Framing) (b : List Byte):
    (h.gather f b).port = { h.port with framing := f, gathered := b } := rfl
@[simp] theorem House.gather_clock (h : House) (f : Framing) (b : List Byte):
    (h.gather f b).clock = h.clock := rfl
@[simp] theorem House.gather_memory (h : House) (f : Framing) (b : List Byte):
    (h.gather f b).memory = h.memory := rfl

@[simp] theorem House.pollEnds_lanes (h : House) :
    h.pollEnds.lanes = h.lanes := rfl
@[simp] theorem House.pollEnds_bowlers (h : House) :
    h.pollEnds.bowlers = h.bowlers := rfl
@[simp] theorem House.pollEnds_squads (h : House) :
    h.pollEnds.squads = h.squads := rfl
@[simp] theorem House.pollEnds_returns (h : House) :
    h.pollEnds.returns = h.returns := rfl
@[simp] theorem House.pollEnds_calls (h : House) :
    h.pollEnds.calls = h.calls := rfl
@[simp] theorem House.pollEnds_tabs (h : House) :
    h.pollEnds.tabs = h.tabs := rfl
@[simp] theorem House.pollEnds_plans (h : House) :
    h.pollEnds.plans = h.plans := rfl
@[simp] theorem House.pollEnds_machine (h : House) :
    h.pollEnds.machine = { h.machine with pollOut := none } := rfl
@[simp] theorem House.pollEnds_port (h : House) :
    h.pollEnds.port = h.port := rfl
@[simp] theorem House.pollEnds_clock (h : House) :
    h.pollEnds.clock = h.clock := rfl
@[simp] theorem House.pollEnds_memory (h : House) :
    h.pollEnds.memory = h.memory := rfl

@[simp] theorem House.refreshSummary_lanes (h : House) :
    h.refreshSummary.lanes = h.lanes := rfl
@[simp] theorem House.refreshSummary_bowlers (h : House) :
    h.refreshSummary.bowlers = h.bowlers := rfl
@[simp] theorem House.refreshSummary_squads (h : House) :
    h.refreshSummary.squads = h.squads := rfl
@[simp] theorem House.refreshSummary_returns (h : House) :
    h.refreshSummary.returns = h.returns := rfl
@[simp] theorem House.refreshSummary_calls (h : House) :
    h.refreshSummary.calls = h.calls := rfl
@[simp] theorem House.refreshSummary_tabs (h : House) :
    h.refreshSummary.tabs = h.tabs := rfl
@[simp] theorem House.refreshSummary_plans (h : House) :
    h.refreshSummary.plans = h.plans := rfl
@[simp] theorem House.refreshSummary_machine (h : House) :
    h.refreshSummary.machine = h.machine := rfl
@[simp] theorem House.refreshSummary_port (h : House) :
    h.refreshSummary.port = { h.port with summary := h.formSummary, attn := !h.formSummary.isNone } := rfl
@[simp] theorem House.refreshSummary_clock (h : House) :
    h.refreshSummary.clock = h.clock := rfl
@[simp] theorem House.refreshSummary_memory (h : House) :
    h.refreshSummary.memory = h.memory := rfl

/-! ### The updates of a lane record -/

@[simp] theorem LaneRecord.abandon_mode (l : LaneRecord) :
    l.abandon.mode = l.mode := rfl
@[simp] theorem LaneRecord.abandon_causes (l : LaneRecord) :
    l.abandon.causes = l.causes := rfl
@[simp] theorem LaneRecord.abandon_deck (l : LaneRecord) :
    l.abandon.deck = .empty := rfl
@[simp] theorem LaneRecord.abandon_standing (l : LaneRecord) :
    l.abandon.standing = noPins := rfl
@[simp] theorem LaneRecord.abandon_delivery (l : LaneRecord) :
    l.abandon.delivery = none := rfl
@[simp] theorem LaneRecord.abandon_cycle (l : LaneRecord) :
    l.abandon.cycle = none := rfl
@[simp] theorem LaneRecord.abandon_foulMark (l : LaneRecord) :
    l.abandon.foulMark = none := rfl
@[simp] theorem LaneRecord.abandon_recoveryOwed (l : LaneRecord) :
    l.abandon.recoveryOwed = false := rfl
@[simp] theorem LaneRecord.abandon_warmUp (l : LaneRecord) :
    l.abandon.warmUp = l.warmUp := rfl
@[simp] theorem LaneRecord.abandon_flags (l : LaneRecord) :
    l.abandon.flags = l.flags := rfl
@[simp] theorem LaneRecord.abandon_mask (l : LaneRecord) :
    l.abandon.mask = l.mask := rfl
@[simp] theorem LaneRecord.abandon_context (l : LaneRecord) :
    l.abandon.context = releaseContext l.context := rfl
@[simp] theorem LaneRecord.abandon_raises (l : LaneRecord) :
    l.abandon.raises = l.raises := rfl
@[simp] theorem LaneRecord.abandon_repeatOwed (l : LaneRecord) :
    l.abandon.repeatOwed = false := rfl
@[simp] theorem LaneRecord.abandon_options (l : LaneRecord) :
    l.abandon.options = l.options := rfl
@[simp] theorem LaneRecord.abandon_tab (l : LaneRecord) :
    l.abandon.tab = l.tab := rfl
@[simp] theorem LaneRecord.abandon_squad (l : LaneRecord) :
    l.abandon.squad = l.squad := rfl
@[simp] theorem LaneRecord.abandon_capabilities (l : LaneRecord) :
    l.abandon.capabilities = l.capabilities := rfl

@[simp] theorem LaneRecord.dropDelivery_mode (l : LaneRecord) :
    l.dropDelivery.mode = l.mode := rfl
@[simp] theorem LaneRecord.dropDelivery_causes (l : LaneRecord) :
    l.dropDelivery.causes = l.causes := rfl
@[simp] theorem LaneRecord.dropDelivery_deck (l : LaneRecord) :
    l.dropDelivery.deck = .empty := rfl
@[simp] theorem LaneRecord.dropDelivery_standing (l : LaneRecord) :
    l.dropDelivery.standing = noPins := rfl
@[simp] theorem LaneRecord.dropDelivery_delivery (l : LaneRecord) :
    l.dropDelivery.delivery = none := rfl
@[simp] theorem LaneRecord.dropDelivery_cycle (l : LaneRecord) :
    l.dropDelivery.cycle = l.cycle := rfl
@[simp] theorem LaneRecord.dropDelivery_foulMark (l : LaneRecord) :
    l.dropDelivery.foulMark = l.foulMark := rfl
@[simp] theorem LaneRecord.dropDelivery_recoveryOwed (l : LaneRecord) :
    l.dropDelivery.recoveryOwed = l.recoveryOwed := rfl
@[simp] theorem LaneRecord.dropDelivery_warmUp (l : LaneRecord) :
    l.dropDelivery.warmUp = l.warmUp := rfl
@[simp] theorem LaneRecord.dropDelivery_flags (l : LaneRecord) :
    l.dropDelivery.flags = l.flags := rfl
@[simp] theorem LaneRecord.dropDelivery_mask (l : LaneRecord) :
    l.dropDelivery.mask = l.mask := rfl
@[simp] theorem LaneRecord.dropDelivery_context (l : LaneRecord) :
    l.dropDelivery.context = l.context := rfl
@[simp] theorem LaneRecord.dropDelivery_raises (l : LaneRecord) :
    l.dropDelivery.raises = l.raises := rfl
@[simp] theorem LaneRecord.dropDelivery_repeatOwed (l : LaneRecord) :
    l.dropDelivery.repeatOwed = l.repeatOwed := rfl
@[simp] theorem LaneRecord.dropDelivery_options (l : LaneRecord) :
    l.dropDelivery.options = l.options := rfl
@[simp] theorem LaneRecord.dropDelivery_tab (l : LaneRecord) :
    l.dropDelivery.tab = l.tab := rfl
@[simp] theorem LaneRecord.dropDelivery_squad (l : LaneRecord) :
    l.dropDelivery.squad = l.squad := rfl
@[simp] theorem LaneRecord.dropDelivery_capabilities (l : LaneRecord) :
    l.dropDelivery.capabilities = l.capabilities := rfl

@[simp] theorem LaneRecord.dropCycle_mode (l : LaneRecord) :
    l.dropCycle.mode = l.mode := rfl
@[simp] theorem LaneRecord.dropCycle_causes (l : LaneRecord) :
    l.dropCycle.causes = l.causes := rfl
@[simp] theorem LaneRecord.dropCycle_deck (l : LaneRecord) :
    l.dropCycle.deck = .empty := rfl
@[simp] theorem LaneRecord.dropCycle_standing (l : LaneRecord) :
    l.dropCycle.standing = noPins := rfl
@[simp] theorem LaneRecord.dropCycle_delivery (l : LaneRecord) :
    l.dropCycle.delivery = l.delivery := rfl
@[simp] theorem LaneRecord.dropCycle_cycle (l : LaneRecord) :
    l.dropCycle.cycle = none := rfl
@[simp] theorem LaneRecord.dropCycle_foulMark (l : LaneRecord) :
    l.dropCycle.foulMark = l.foulMark := rfl
@[simp] theorem LaneRecord.dropCycle_recoveryOwed (l : LaneRecord) :
    l.dropCycle.recoveryOwed = l.recoveryOwed := rfl
@[simp] theorem LaneRecord.dropCycle_warmUp (l : LaneRecord) :
    l.dropCycle.warmUp = l.warmUp := rfl
@[simp] theorem LaneRecord.dropCycle_flags (l : LaneRecord) :
    l.dropCycle.flags = l.flags := rfl
@[simp] theorem LaneRecord.dropCycle_mask (l : LaneRecord) :
    l.dropCycle.mask = l.mask := rfl
@[simp] theorem LaneRecord.dropCycle_context (l : LaneRecord) :
    l.dropCycle.context = l.context := rfl
@[simp] theorem LaneRecord.dropCycle_raises (l : LaneRecord) :
    l.dropCycle.raises = l.raises := rfl
@[simp] theorem LaneRecord.dropCycle_repeatOwed (l : LaneRecord) :
    l.dropCycle.repeatOwed = false := rfl
@[simp] theorem LaneRecord.dropCycle_options (l : LaneRecord) :
    l.dropCycle.options = l.options := rfl
@[simp] theorem LaneRecord.dropCycle_tab (l : LaneRecord) :
    l.dropCycle.tab = l.tab := rfl
@[simp] theorem LaneRecord.dropCycle_squad (l : LaneRecord) :
    l.dropCycle.squad = l.squad := rfl
@[simp] theorem LaneRecord.dropCycle_capabilities (l : LaneRecord) :
    l.dropCycle.capabilities = l.capabilities := rfl

@[simp] theorem LaneRecord.closingLost_mode (l : LaneRecord) :
    l.closingLost.mode = l.mode := rfl
@[simp] theorem LaneRecord.closingLost_causes (l : LaneRecord) :
    l.closingLost.causes = l.causes := rfl
@[simp] theorem LaneRecord.closingLost_deck (l : LaneRecord) :
    l.closingLost.deck = .empty := rfl
@[simp] theorem LaneRecord.closingLost_standing (l : LaneRecord) :
    l.closingLost.standing = noPins := rfl
@[simp] theorem LaneRecord.closingLost_delivery (l : LaneRecord) :
    l.closingLost.delivery = none := rfl
@[simp] theorem LaneRecord.closingLost_cycle (l : LaneRecord) :
    l.closingLost.cycle = none := rfl
@[simp] theorem LaneRecord.closingLost_foulMark (l : LaneRecord) :
    l.closingLost.foulMark = l.foulMark := rfl
@[simp] theorem LaneRecord.closingLost_recoveryOwed (l : LaneRecord) :
    l.closingLost.recoveryOwed = l.recoveryOwed := rfl
@[simp] theorem LaneRecord.closingLost_warmUp (l : LaneRecord) :
    l.closingLost.warmUp = l.warmUp := rfl
@[simp] theorem LaneRecord.closingLost_flags (l : LaneRecord) :
    l.closingLost.flags = l.flags := rfl
@[simp] theorem LaneRecord.closingLost_mask (l : LaneRecord) :
    l.closingLost.mask = l.mask := rfl
@[simp] theorem LaneRecord.closingLost_context (l : LaneRecord) :
    l.closingLost.context = l.context := rfl
@[simp] theorem LaneRecord.closingLost_raises (l : LaneRecord) :
    l.closingLost.raises = l.raises := rfl
@[simp] theorem LaneRecord.closingLost_repeatOwed (l : LaneRecord) :
    l.closingLost.repeatOwed = false := rfl
@[simp] theorem LaneRecord.closingLost_options (l : LaneRecord) :
    l.closingLost.options = l.options := rfl
@[simp] theorem LaneRecord.closingLost_tab (l : LaneRecord) :
    l.closingLost.tab = l.tab := rfl
@[simp] theorem LaneRecord.closingLost_squad (l : LaneRecord) :
    l.closingLost.squad = l.squad := rfl
@[simp] theorem LaneRecord.closingLost_capabilities (l : LaneRecord) :
    l.closingLost.capabilities = l.capabilities := rfl

@[simp] theorem LaneRecord.warmingCloses_mode (l : LaneRecord) :
    l.warmingCloses.mode = .dark := rfl
@[simp] theorem LaneRecord.warmingCloses_causes (l : LaneRecord) :
    l.warmingCloses.causes = .none := rfl
@[simp] theorem LaneRecord.warmingCloses_deck (l : LaneRecord) :
    l.warmingCloses.deck = l.deck := rfl
@[simp] theorem LaneRecord.warmingCloses_standing (l : LaneRecord) :
    l.warmingCloses.standing = l.standing := rfl
@[simp] theorem LaneRecord.warmingCloses_delivery (l : LaneRecord) :
    l.warmingCloses.delivery = l.delivery := rfl
@[simp] theorem LaneRecord.warmingCloses_cycle (l : LaneRecord) :
    l.warmingCloses.cycle = l.cycle := rfl
@[simp] theorem LaneRecord.warmingCloses_foulMark (l : LaneRecord) :
    l.warmingCloses.foulMark = l.foulMark := rfl
@[simp] theorem LaneRecord.warmingCloses_recoveryOwed (l : LaneRecord) :
    l.warmingCloses.recoveryOwed = l.recoveryOwed := rfl
@[simp] theorem LaneRecord.warmingCloses_warmUp (l : LaneRecord) :
    l.warmingCloses.warmUp = none := rfl
@[simp] theorem LaneRecord.warmingCloses_flags (l : LaneRecord) :
    l.warmingCloses.flags = l.flags := rfl
@[simp] theorem LaneRecord.warmingCloses_mask (l : LaneRecord) :
    l.warmingCloses.mask = l.mask := rfl
@[simp] theorem LaneRecord.warmingCloses_context (l : LaneRecord) :
    l.warmingCloses.context = l.context := rfl
@[simp] theorem LaneRecord.warmingCloses_raises (l : LaneRecord) :
    l.warmingCloses.raises = l.raises := rfl
@[simp] theorem LaneRecord.warmingCloses_repeatOwed (l : LaneRecord) :
    l.warmingCloses.repeatOwed = l.repeatOwed := rfl
@[simp] theorem LaneRecord.warmingCloses_options (l : LaneRecord) :
    l.warmingCloses.options = l.options := rfl
@[simp] theorem LaneRecord.warmingCloses_tab (l : LaneRecord) :
    l.warmingCloses.tab = l.tab := rfl
@[simp] theorem LaneRecord.warmingCloses_squad (l : LaneRecord) :
    l.warmingCloses.squad = l.squad := rfl
@[simp] theorem LaneRecord.warmingCloses_capabilities (l : LaneRecord) :
    l.warmingCloses.capabilities = l.capabilities := rfl

@[simp] theorem LaneRecord.freeze_mode (l : LaneRecord) :
    l.freeze.mode = l.mode := rfl
@[simp] theorem LaneRecord.freeze_causes (l : LaneRecord) :
    l.freeze.causes = l.causes := rfl
@[simp] theorem LaneRecord.freeze_deck (l : LaneRecord) :
    l.freeze.deck = l.deck := rfl
@[simp] theorem LaneRecord.freeze_standing (l : LaneRecord) :
    l.freeze.standing = l.standing := rfl
@[simp] theorem LaneRecord.freeze_delivery (l : LaneRecord) :
    l.freeze.delivery = l.delivery.map fun d => { d with frozen := true, deadline := none } := rfl
@[simp] theorem LaneRecord.freeze_cycle (l : LaneRecord) :
    l.freeze.cycle = l.cycle := rfl
@[simp] theorem LaneRecord.freeze_foulMark (l : LaneRecord) :
    l.freeze.foulMark = l.foulMark := rfl
@[simp] theorem LaneRecord.freeze_recoveryOwed (l : LaneRecord) :
    l.freeze.recoveryOwed = l.recoveryOwed := rfl
@[simp] theorem LaneRecord.freeze_warmUp (l : LaneRecord) :
    l.freeze.warmUp = l.warmUp := rfl
@[simp] theorem LaneRecord.freeze_flags (l : LaneRecord) :
    l.freeze.flags = l.flags := rfl
@[simp] theorem LaneRecord.freeze_mask (l : LaneRecord) :
    l.freeze.mask = l.mask := rfl
@[simp] theorem LaneRecord.freeze_context (l : LaneRecord) :
    l.freeze.context = l.context := rfl
@[simp] theorem LaneRecord.freeze_raises (l : LaneRecord) :
    l.freeze.raises = l.raises := rfl
@[simp] theorem LaneRecord.freeze_repeatOwed (l : LaneRecord) :
    l.freeze.repeatOwed = l.repeatOwed := rfl
@[simp] theorem LaneRecord.freeze_options (l : LaneRecord) :
    l.freeze.options = l.options := rfl
@[simp] theorem LaneRecord.freeze_tab (l : LaneRecord) :
    l.freeze.tab = l.tab := rfl
@[simp] theorem LaneRecord.freeze_squad (l : LaneRecord) :
    l.freeze.squad = l.squad := rfl
@[simp] theorem LaneRecord.freeze_capabilities (l : LaneRecord) :
    l.freeze.capabilities = l.capabilities := rfl

@[simp] theorem LaneRecord.resetWork_mode (l : LaneRecord) :
    l.resetWork.mode = l.mode := rfl
@[simp] theorem LaneRecord.resetWork_causes (l : LaneRecord) :
    l.resetWork.causes = l.causes := rfl
@[simp] theorem LaneRecord.resetWork_deck (l : LaneRecord) :
    l.resetWork.deck = if l.busy then .empty else l.deck := rfl
@[simp] theorem LaneRecord.resetWork_standing (l : LaneRecord) :
    l.resetWork.standing = if l.busy then noPins else l.standing := rfl
@[simp] theorem LaneRecord.resetWork_delivery (l : LaneRecord) :
    l.resetWork.delivery = none := rfl
@[simp] theorem LaneRecord.resetWork_cycle (l : LaneRecord) :
    l.resetWork.cycle = none := rfl
@[simp] theorem LaneRecord.resetWork_foulMark (l : LaneRecord) :
    l.resetWork.foulMark = none := rfl
@[simp] theorem LaneRecord.resetWork_recoveryOwed (l : LaneRecord) :
    l.resetWork.recoveryOwed = false := rfl
@[simp] theorem LaneRecord.resetWork_warmUp (l : LaneRecord) :
    l.resetWork.warmUp = l.warmUp := rfl
@[simp] theorem LaneRecord.resetWork_flags (l : LaneRecord) :
    l.resetWork.flags = l.flags := rfl
@[simp] theorem LaneRecord.resetWork_mask (l : LaneRecord) :
    l.resetWork.mask = l.mask := rfl
@[simp] theorem LaneRecord.resetWork_context (l : LaneRecord) :
    l.resetWork.context = releaseContext l.context := rfl
@[simp] theorem LaneRecord.resetWork_raises (l : LaneRecord) :
    l.resetWork.raises = l.raises := rfl
@[simp] theorem LaneRecord.resetWork_repeatOwed (l : LaneRecord) :
    l.resetWork.repeatOwed = false := rfl
@[simp] theorem LaneRecord.resetWork_options (l : LaneRecord) :
    l.resetWork.options = l.options := rfl
@[simp] theorem LaneRecord.resetWork_tab (l : LaneRecord) :
    l.resetWork.tab = l.tab := rfl
@[simp] theorem LaneRecord.resetWork_squad (l : LaneRecord) :
    l.resetWork.squad = l.squad := rfl
@[simp] theorem LaneRecord.resetWork_capabilities (l : LaneRecord) :
    l.resetWork.capabilities = l.capabilities := rfl

@[simp] theorem LaneRecord.enterClosing_mode (l : LaneRecord) :
    l.enterClosing.mode = .closing := rfl
@[simp] theorem LaneRecord.enterClosing_causes (l : LaneRecord) :
    l.enterClosing.causes = .none := rfl
@[simp] theorem LaneRecord.enterClosing_deck (l : LaneRecord) :
    l.enterClosing.deck = if l.delivery.isSome && (keptOnClosing l.delivery).isNone then .empty else l.deck := rfl
@[simp] theorem LaneRecord.enterClosing_standing (l : LaneRecord) :
    l.enterClosing.standing = if l.delivery.isSome && (keptOnClosing l.delivery).isNone then noPins else l.standing := rfl
@[simp] theorem LaneRecord.enterClosing_delivery (l : LaneRecord) :
    l.enterClosing.delivery = keptOnClosing l.delivery := rfl
@[simp] theorem LaneRecord.enterClosing_cycle (l : LaneRecord) :
    l.enterClosing.cycle = l.cycle := rfl
@[simp] theorem LaneRecord.enterClosing_foulMark (l : LaneRecord) :
    l.enterClosing.foulMark = none := rfl
@[simp] theorem LaneRecord.enterClosing_recoveryOwed (l : LaneRecord) :
    l.enterClosing.recoveryOwed = false := rfl
@[simp] theorem LaneRecord.enterClosing_warmUp (l : LaneRecord) :
    l.enterClosing.warmUp = l.warmUp := rfl
@[simp] theorem LaneRecord.enterClosing_flags (l : LaneRecord) :
    l.enterClosing.flags = Vector.replicate 6 false := rfl
@[simp] theorem LaneRecord.enterClosing_mask (l : LaneRecord) :
    l.enterClosing.mask = l.mask := rfl
@[simp] theorem LaneRecord.enterClosing_context (l : LaneRecord) :
    l.enterClosing.context = none := rfl
@[simp] theorem LaneRecord.enterClosing_raises (l : LaneRecord) :
    l.enterClosing.raises = Vector.replicate 6 none := rfl
@[simp] theorem LaneRecord.enterClosing_repeatOwed (l : LaneRecord) :
    l.enterClosing.repeatOwed = false := rfl
@[simp] theorem LaneRecord.enterClosing_options (l : LaneRecord) :
    l.enterClosing.options = l.options := rfl
@[simp] theorem LaneRecord.enterClosing_tab (l : LaneRecord) :
    l.enterClosing.tab = l.tab := rfl
@[simp] theorem LaneRecord.enterClosing_squad (l : LaneRecord) :
    l.enterClosing.squad = l.squad := rfl
@[simp] theorem LaneRecord.enterClosing_capabilities (l : LaneRecord) :
    l.enterClosing.capabilities = l.capabilities := rfl

@[simp] theorem LaneRecord.note_mode (l : LaneRecord) (r : RaiseRecord) :
    (l.note r).mode = l.mode := rfl
@[simp] theorem LaneRecord.note_causes (l : LaneRecord) (r : RaiseRecord) :
    (l.note r).causes = l.causes := rfl
@[simp] theorem LaneRecord.note_deck (l : LaneRecord) (r : RaiseRecord) :
    (l.note r).deck = l.deck := rfl
@[simp] theorem LaneRecord.note_standing (l : LaneRecord) (r : RaiseRecord) :
    (l.note r).standing = l.standing := rfl
@[simp] theorem LaneRecord.note_delivery (l : LaneRecord) (r : RaiseRecord) :
    (l.note r).delivery = l.delivery := rfl
@[simp] theorem LaneRecord.note_cycle (l : LaneRecord) (r : RaiseRecord) :
    (l.note r).cycle = l.cycle := rfl
@[simp] theorem LaneRecord.note_foulMark (l : LaneRecord) (r : RaiseRecord) :
    (l.note r).foulMark = l.foulMark := rfl
@[simp] theorem LaneRecord.note_recoveryOwed (l : LaneRecord) (r : RaiseRecord) :
    (l.note r).recoveryOwed = l.recoveryOwed := rfl
@[simp] theorem LaneRecord.note_warmUp (l : LaneRecord) (r : RaiseRecord) :
    (l.note r).warmUp = l.warmUp := rfl
@[simp] theorem LaneRecord.note_flags (l : LaneRecord) (r : RaiseRecord) :
    (l.note r).flags = l.flags.set r.kind.place true := rfl
@[simp] theorem LaneRecord.note_mask (l : LaneRecord) (r : RaiseRecord) :
    (l.note r).mask = l.mask := rfl
@[simp] theorem LaneRecord.note_context (l : LaneRecord) (r : RaiseRecord) :
    (l.note r).context = l.context := rfl
@[simp] theorem LaneRecord.note_raises (l : LaneRecord) (r : RaiseRecord) :
    (l.note r).raises = l.raises.set r.kind.place (some r) := rfl
@[simp] theorem LaneRecord.note_repeatOwed (l : LaneRecord) (r : RaiseRecord) :
    (l.note r).repeatOwed = l.repeatOwed := rfl
@[simp] theorem LaneRecord.note_options (l : LaneRecord) (r : RaiseRecord) :
    (l.note r).options = l.options := rfl
@[simp] theorem LaneRecord.note_tab (l : LaneRecord) (r : RaiseRecord) :
    (l.note r).tab = l.tab := rfl
@[simp] theorem LaneRecord.note_squad (l : LaneRecord) (r : RaiseRecord) :
    (l.note r).squad = l.squad := rfl
@[simp] theorem LaneRecord.note_capabilities (l : LaneRecord) (r : RaiseRecord) :
    (l.note r).capabilities = l.capabilities := rfl

/-! ### The updates of the other records -/

@[simp] theorem ReturnRecord.restart_outstanding (r : ReturnRecord) :
    r.restart.outstanding = [] := rfl
@[simp] theorem ReturnRecord.restart_timeout (r : ReturnRecord) :
    r.restart.timeout = r.timeout := rfl
@[simp] theorem ReturnRecord.restart_deadline (r : ReturnRecord) :
    r.restart.deadline = none := rfl
@[simp] theorem ReturnRecord.restart_jam (r : ReturnRecord) :
    r.restart.jam = r.jam := rfl

@[simp] theorem ModuleSlot.answered_present (m : ModuleSlot) (k : Nat) :
    (m.answered k).present = m.present := rfl
@[simp] theorem ModuleSlot.answered_unanswered (m : ModuleSlot) (k : Nat) :
    (m.answered k).unanswered = 0 := rfl
@[simp] theorem ModuleSlot.answered_sequence (m : ModuleSlot) (k : Nat) :
    (m.answered k).sequence = !m.sequence := rfl
@[simp] theorem ModuleSlot.answered_orders (m : ModuleSlot) (k : Nat) :
    (m.answered k).orders = m.orders.drop k := rfl
@[simp] theorem ModuleSlot.answered_capabilities (m : ModuleSlot) (k : Nat) :
    (m.answered k).capabilities = m.capabilities := rfl
@[simp] theorem ModuleSlot.answered_overflowed (m : ModuleSlot) (k : Nat) :
    (m.answered k).overflowed = m.overflowed := rfl

@[simp] theorem ModuleSlot.restart_present (m : ModuleSlot) :
    m.restart.present = false := rfl
@[simp] theorem ModuleSlot.restart_unanswered (m : ModuleSlot) :
    m.restart.unanswered = 0 := rfl
@[simp] theorem ModuleSlot.restart_sequence (m : ModuleSlot) :
    m.restart.sequence = false := rfl
@[simp] theorem ModuleSlot.restart_orders (m : ModuleSlot) :
    m.restart.orders = [] := rfl
@[simp] theorem ModuleSlot.restart_capabilities (m : ModuleSlot) :
    m.restart.capabilities = m.capabilities := rfl
@[simp] theorem ModuleSlot.restart_overflowed (m : ModuleSlot) :
    m.restart.overflowed = false := rfl

@[simp] theorem CallQueue.restart_queue (q : CallQueue) :
    q.restart.queue = q.queue.map fun c => { c with station := none } := rfl
@[simp] theorem CallQueue.restart_unqueued (q : CallQueue) :
    q.restart.unqueued = q.unqueued := rfl
@[simp] theorem CallQueue.restart_stations (q : CallQueue) :
    q.restart.stations = Vector.replicate 4 [] := rfl
@[simp] theorem CallQueue.restart_classMap (q : CallQueue) :
    q.restart.classMap = q.classMap := rfl
@[simp] theorem CallQueue.restart_dispatch (q : CallQueue) :
    q.restart.dispatch = q.dispatch := rfl
@[simp] theorem CallQueue.restart_credits (q : CallQueue) :
    q.restart.credits = noCredits := rfl
@[simp] theorem CallQueue.restart_lastNumber (q : CallQueue) :
    q.restart.lastNumber = q.lastNumber := rfl

@[simp] theorem CallQueue.hold_queue (q : CallQueue) (number : Nat) (station : Option Nat) :
    (q.hold number station).queue = q.queue.map fun r => if r.number = number then { r with station := station } else r := rfl
@[simp] theorem CallQueue.hold_unqueued (q : CallQueue) (number : Nat) (station : Option Nat) :
    (q.hold number station).unqueued = q.unqueued := rfl
@[simp] theorem CallQueue.hold_stations (q : CallQueue) (number : Nat) (station : Option Nat) :
    (q.hold number station).stations = q.stations := rfl
@[simp] theorem CallQueue.hold_classMap (q : CallQueue) (number : Nat) (station : Option Nat) :
    (q.hold number station).classMap = q.classMap := rfl
@[simp] theorem CallQueue.hold_dispatch (q : CallQueue) (number : Nat) (station : Option Nat) :
    (q.hold number station).dispatch = q.dispatch := rfl
@[simp] theorem CallQueue.hold_credits (q : CallQueue) (number : Nat) (station : Option Nat) :
    (q.hold number station).credits = q.credits := rfl
@[simp] theorem CallQueue.hold_lastNumber (q : CallQueue) (number : Nat) (station : Option Nat) :
    (q.hold number station).lastNumber = q.lastNumber := rfl

@[simp] theorem CallQueue.newRound_queue (q : CallQueue) :
    q.newRound.queue = q.queue := rfl
@[simp] theorem CallQueue.newRound_unqueued (q : CallQueue) :
    q.newRound.unqueued = q.unqueued := rfl
@[simp] theorem CallQueue.newRound_stations (q : CallQueue) :
    q.newRound.stations = q.stations := rfl
@[simp] theorem CallQueue.newRound_classMap (q : CallQueue) :
    q.newRound.classMap = q.classMap := rfl
@[simp] theorem CallQueue.newRound_dispatch (q : CallQueue) :
    q.newRound.dispatch = q.dispatch := rfl
@[simp] theorem CallQueue.newRound_lastNumber (q : CallQueue) :
    q.newRound.lastNumber = q.lastNumber := rfl

@[simp] theorem RecordMemory.restarted_cause (m : RecordMemory) (c : RestartCause) :
    (m.restarted c).cause = c := rfl
@[simp] theorem RecordMemory.restarted_previous (m : RecordMemory) (c : RestartCause) :
    (m.restarted c).previous = some m.cause := rfl
@[simp] theorem RecordMemory.restarted_valid (m : RecordMemory) (c : RestartCause) :
    (m.restarted c).valid = true := rfl
@[simp] theorem RecordMemory.restarted_mainPower (m : RecordMemory) (c : RestartCause) :
    (m.restarted c).mainPower = m.mainPower := rfl
@[simp] theorem RecordMemory.restarted_sbokGood (m : RecordMemory) (c : RestartCause) :
    (m.restarted c).sbokGood = m.sbokGood := rfl
@[simp] theorem RecordMemory.restarted_resetHeld (m : RecordMemory) (c : RestartCause) :
    (m.restarted c).resetHeld = m.resetHeld := rfl
@[simp] theorem RecordMemory.restarted_startWaits (m : RecordMemory) (c : RestartCause) :
    (m.restarted c).startWaits = false := rfl
@[simp] theorem RecordMemory.restarted_restartOwed (m : RecordMemory) (c : RestartCause) :
    (m.restarted c).restartOwed = false := rfl

@[simp] theorem RecordMemory.losePower_cause (m : RecordMemory) :
    m.losePower.cause = m.cause := rfl
@[simp] theorem RecordMemory.losePower_previous (m : RecordMemory) :
    m.losePower.previous = m.previous := rfl
@[simp] theorem RecordMemory.losePower_valid (m : RecordMemory) :
    m.losePower.valid = (m.valid && (false || m.sbokGood)) := rfl
@[simp] theorem RecordMemory.losePower_mainPower (m : RecordMemory) :
    m.losePower.mainPower = false := rfl
@[simp] theorem RecordMemory.losePower_sbokGood (m : RecordMemory) :
    m.losePower.sbokGood = m.sbokGood := rfl
@[simp] theorem RecordMemory.losePower_resetHeld (m : RecordMemory) :
    m.losePower.resetHeld = m.resetHeld := rfl
@[simp] theorem RecordMemory.losePower_startWaits (m : RecordMemory) :
    m.losePower.startWaits = false := rfl
@[simp] theorem RecordMemory.losePower_restartOwed (m : RecordMemory) :
    m.losePower.restartOwed = false := rfl

@[simp] theorem RecordMemory.sagged_cause (m : RecordMemory) (low : Bool) :
    (m.sagged low).cause = m.cause := rfl
@[simp] theorem RecordMemory.sagged_previous (m : RecordMemory) (low : Bool) :
    (m.sagged low).previous = m.previous := rfl
@[simp] theorem RecordMemory.sagged_valid (m : RecordMemory) (low : Bool) :
    (m.sagged low).valid = (m.valid && (m.mainPower || false)) := rfl
@[simp] theorem RecordMemory.sagged_mainPower (m : RecordMemory) (low : Bool) :
    (m.sagged low).mainPower = m.mainPower := rfl
@[simp] theorem RecordMemory.sagged_sbokGood (m : RecordMemory) (low : Bool) :
    (m.sagged low).sbokGood = !low := rfl
@[simp] theorem RecordMemory.sagged_resetHeld (m : RecordMemory) (low : Bool) :
    (m.sagged low).resetHeld = m.resetHeld := rfl
@[simp] theorem RecordMemory.sagged_startWaits (m : RecordMemory) (low : Bool) :
    (m.sagged low).startWaits = m.startWaits := rfl
@[simp] theorem RecordMemory.sagged_restartOwed (m : RecordMemory) (low : Bool) :
    (m.sagged low).restartOwed = m.restartOwed := rfl

@[simp] theorem SquadRecord.bind_lane (r : SquadRecord) (p : Nat) (side : Side) (auto : Bool) :
    (r.bind p side auto).lane = r.lane := rfl
@[simp] theorem SquadRecord.bind_order (r : SquadRecord) (p : Nat) (side : Side) (auto : Bool) :
    (r.bind p side auto).order = r.order := rfl
@[simp] theorem SquadRecord.bind_upPosition (r : SquadRecord) (p : Nat) (side : Side) (auto : Bool) :
    (r.bind p side auto).upPosition = r.upPosition := rfl
@[simp] theorem SquadRecord.bind_frame (r : SquadRecord) (p : Nat) (side : Side) (auto : Bool) :
    (r.bind p side auto).frame = r.frame := rfl
@[simp] theorem SquadRecord.bind_mode (r : SquadRecord) (p : Nat) (side : Side) (auto : Bool) :
    (r.bind p side auto).mode = .pairPlay := rfl
@[simp] theorem SquadRecord.bind_partner (r : SquadRecord) (p : Nat) (side : Side) (auto : Bool) :
    (r.bind p side auto).partner = some p := rfl
@[simp] theorem SquadRecord.bind_side (r : SquadRecord) (p : Nat) (side : Side) (auto : Bool) :
    (r.bind p side auto).side = some side := rfl
@[simp] theorem SquadRecord.bind_pairGame (r : SquadRecord) (p : Nat) (side : Side) (auto : Bool) :
    (r.bind p side auto).pairGame = 0 := rfl
@[simp] theorem SquadRecord.bind_autoNext (r : SquadRecord) (p : Nat) (side : Side) (auto : Bool) :
    (r.bind p side auto).autoNext = auto := rfl
@[simp] theorem SquadRecord.bind_rule (r : SquadRecord) (p : Nat) (side : Side) (auto : Bool) :
    (r.bind p side auto).rule = r.rule := rfl
@[simp] theorem SquadRecord.bind_state (r : SquadRecord) (p : Nat) (side : Side) (auto : Bool) :
    (r.bind p side auto).state = r.state := rfl
@[simp] theorem SquadRecord.bind_stopPoint (r : SquadRecord) (p : Nat) (side : Side) (auto : Bool) :
    (r.bind p side auto).stopPoint = r.stopPoint := rfl

@[simp] theorem SquadRecord.unbind_lane (r : SquadRecord) :
    r.unbind.lane = r.lane := rfl
@[simp] theorem SquadRecord.unbind_order (r : SquadRecord) :
    r.unbind.order = r.order := rfl
@[simp] theorem SquadRecord.unbind_upPosition (r : SquadRecord) :
    r.unbind.upPosition = r.upPosition := rfl
@[simp] theorem SquadRecord.unbind_frame (r : SquadRecord) :
    r.unbind.frame = r.frame := rfl
@[simp] theorem SquadRecord.unbind_mode (r : SquadRecord) :
    r.unbind.mode = .openPlay := rfl
@[simp] theorem SquadRecord.unbind_partner (r : SquadRecord) :
    r.unbind.partner = none := rfl
@[simp] theorem SquadRecord.unbind_side (r : SquadRecord) :
    r.unbind.side = none := rfl
@[simp] theorem SquadRecord.unbind_pairGame (r : SquadRecord) :
    r.unbind.pairGame = 0 := rfl
@[simp] theorem SquadRecord.unbind_autoNext (r : SquadRecord) :
    r.unbind.autoNext = r.autoNext := rfl
@[simp] theorem SquadRecord.unbind_rule (r : SquadRecord) :
    r.unbind.rule = r.rule := rfl
@[simp] theorem SquadRecord.unbind_state (r : SquadRecord) :
    r.unbind.state = r.state := rfl
@[simp] theorem SquadRecord.unbind_stopPoint (r : SquadRecord) :
    r.unbind.stopPoint = r.stopPoint := rfl

@[simp] theorem Clock.tickTenth_isSet (c : Clock) :
    c.tickTenth.isSet = c.isSet := rfl
@[simp] theorem Clock.tickTenth_day (c : Clock) :
    c.tickTenth.day = c.day := rfl
@[simp] theorem Clock.tickTenth_time (c : Clock) :
    c.tickTenth.time = c.time := rfl
@[simp] theorem Clock.tickTenth_phase (c : Clock) :
    c.tickTenth.phase = c.phase + 1 := rfl
@[simp] theorem Clock.tickTenth_timebase (c : Clock) :
    c.tickTenth.timebase = c.timebase + 1 := rfl

@[simp] theorem Clock.write_isSet (c : Clock) (d h m s : Nat) :
    (c.write d h m s).isSet = true := rfl
@[simp] theorem Clock.write_phase (c : Clock) (d h m s : Nat) :
    (c.write d h m s).phase = c.phase := rfl
@[simp] theorem Clock.write_timebase (c : Clock) (d h m s : Nat) :
    (c.write d h m s).timebase = c.timebase := rfl

end Sys2Proof.Machine
end

