-- ==== Sys2Proof/Laws/Ops.lean ====
section
/-! SUPPORT. The laws of the shared operations over the records: reading a numbered record after a write, the lists of
numbers, folds that keep a field or a property, and what adding and removing a cause, giving an order and ordering a
cycle do. -/

namespace Sys2Proof.Machine

open Sys2Proof

/-! ### Numbered records -/

theorem numGet_outside {α : Type} {n : Nat} (bank : Vector α n) (d : α) (k : Nat) (out : ¬(1 ≤ k ∧ k ≤ n)) :
    numGet bank d k = d := by simp [numGet, out]

/-- A record reads as it was written, and every other record as before; a number outside the bank changes nothing. -/
theorem numGet_numSet {α : Type} {n : Nat} (bank : Vector α n) (d x : α) (j k : Nat) :
    numGet (numSet bank k x) d j = if j = k ∧ 1 ≤ k ∧ k ≤ n then x else numGet bank d j := by
  unfold numGet numSet
  by_cases hj : 1 ≤ j ∧ j ≤ n
  · by_cases hk : 1 ≤ k ∧ k ≤ n
    · rw [dif_pos hj, dif_pos hj, dif_pos hk, Vector.getElem_set]
      by_cases e : j = k
      · subst e; simp [hj]
      · rw [if_neg (by omega), if_neg (fun h => e h.1)]
    · simp [hj, hk]
  · by_cases hk : 1 ≤ k ∧ k ≤ n
    · have e : j ≠ k := fun h => hj (h ▸ hk)
      simp [hj, e]
    · simp [hj, hk]

theorem numGet_numSet_same {α : Type} {n : Nat} (bank : Vector α n) (d x : α) (k : Nat) (inside : 1 ≤ k ∧ k ≤ n) :
    numGet (numSet bank k x) d k = x := by rw [numGet_numSet]; simp [inside]

theorem numGet_numSet_other {α : Type} {n : Nat} (bank : Vector α n) (d x : α) (j k : Nat) (other : j ≠ k) :
    numGet (numSet bank k x) d j = numGet bank d j := by rw [numGet_numSet]; simp [other]

theorem numGet_replicate {α : Type} (n : Nat) (x : α) (k : Nat) : numGet (Vector.replicate n x) x k = x := by
  unfold numGet; split <;> simp

/-- Two banks whose records read alike under every number are the same bank. -/
theorem bank_ext {α : Type} {n : Nat} (a b : Vector α n) (d : α) (alike : ∀ k, numGet a d k = numGet b d k) : a = b := by
  apply Vector.ext
  intro i hi
  have := alike (i + 1)
  simpa [numGet, Nat.succ_le_of_lt hi] using this

theorem numSet_outside {α : Type} {n : Nat} (bank : Vector α n) (k : Nat) (x : α) (out : ¬(1 ≤ k ∧ k ≤ n)) :
    numSet bank k x = bank := by simp [numSet, out]

/-- Writing a record with what it holds changes nothing. -/
theorem numSet_self {α : Type} {n : Nat} (bank : Vector α n) (d : α) (k : Nat) : numSet bank k (numGet bank d k) = bank := by
  apply bank_ext _ _ d
  intro j
  rw [numGet_numSet]
  split
  · rename_i h; rw [h.1]
  · rfl

theorem numSet_numSet {α : Type} {n : Nat} (bank : Vector α n) (k : Nat) (x y : α) :
    numSet (numSet bank k x) k y = numSet bank k y := by
  unfold numSet; split <;> simp

@[simp] theorem mem_numbers (n k : Nat) : k ∈ numbers n ↔ 1 ≤ k ∧ k ≤ n := by
  simp only [numbers, List.mem_map, List.mem_range]
  constructor
  · rintro ⟨a, h, rfl⟩; omega
  · rintro ⟨h, h'⟩; exact ⟨k - 1, by omega, by omega⟩

/-! ### Lanes and pairs -/

theorem isLane_iff (n : Nat) : isLane n = true ↔ 1 ≤ n ∧ n ≤ 48 := by simp [isLane, Config.lanes]

theorem isPair_iff (p : Nat) : isPair p = true ↔ 1 ≤ p ∧ p ≤ 24 := by simp [isPair, Config.pairs]

theorem isPair_pairOf (n : Nat) (lane : isLane n = true) : isPair (pairOf n) = true := by
  rw [isLane_iff] at lane; rw [isPair_iff]; unfold pairOf; omega

theorem mem_lanesOf (p n : Nat) (pair : isPair p = true) : n ∈ lanesOf p ↔ pairOf n = p := by
  rw [isPair_iff] at pair; simp [lanesOf, oddLane, evenLane, pairOf]; omega

/-! ### Folds -/

/-- A fold whose every step keeps a property keeps it. -/
theorem foldl_keeps {α β : Type} (P : β → Prop) (f : β → α → β) (l : List α) (b : β) (start : P b)
    (step : ∀ b a, a ∈ l → P b → P (f b a)) : P (l.foldl f b) := by
  induction l generalizing b with
  | nil => exact start
  | cons a l ih =>
    exact ih (f b a) (step b a (by simp) start) fun b' a' m => step b' a' (by simp [m])

/-- A fold whose every step keeps a field keeps it. -/
theorem foldl_field {α β γ : Type} (field : β → γ) (f : β → α → β) (same : ∀ b a, field (f b a) = field b) (l : List α)
    (b : β) : field (l.foldl f b) = field b :=
  foldl_keeps (fun b' => field b' = field b) f l b rfl fun b' a _ h => (same b' a).trans h

/-! ### Reading a record of the house after an update of the house -/

theorem House.setLane_lane (h : House) (k : Nat) (x : LaneRecord) (n : Nat) :
    (h.setLane k x).lane n = if n = k ∧ 1 ≤ k ∧ k ≤ 48 then x else h.lane n := numGet_numSet ..
@[simp] theorem House.setLane_bowler (h : House) (k : Nat) (x : LaneRecord) (n : Nat) :
    (h.setLane k x).bowler n = h.bowler n := rfl
@[simp] theorem House.setLane_squad (h : House) (k : Nat) (x : LaneRecord) (n : Nat) :
    (h.setLane k x).squad n = h.squad n := rfl
@[simp] theorem House.setLane_tab (h : House) (k : Nat) (x : LaneRecord) (n : Nat) :
    (h.setLane k x).tab n = h.tab n := rfl
@[simp] theorem House.setLane_plan (h : House) (k : Nat) (x : LaneRecord) (n : Nat) :
    (h.setLane k x).plan n = h.plan n := rfl
@[simp] theorem House.setLane_ret (h : House) (k : Nat) (x : LaneRecord) (n : Nat) :
    (h.setLane k x).ret n = h.ret n := rfl
@[simp] theorem House.setLane_slot (h : House) (k : Nat) (x : LaneRecord) (n : Nat) :
    (h.setLane k x).slot n = h.slot n := rfl
@[simp] theorem House.setLane_unqueued (h : House) (k : Nat) (x : LaneRecord) (n : Nat) :
    (h.setLane k x).unqueued n = h.unqueued n := rfl
@[simp] theorem House.setLane_now (h : House) (k : Nat) (x : LaneRecord) : (h.setLane k x).now = h.now := rfl
@[simp] theorem House.setLane_stamp (h : House) (k : Nat) (x : LaneRecord) : (h.setLane k x).stamp = h.stamp := rfl
@[simp] theorem House.setLane_runs (h : House) (k : Nat) (x : LaneRecord) : (h.setLane k x).runs = h.runs := rfl
@[simp] theorem House.setLane_takesFrames (h : House) (k : Nat) (x : LaneRecord) : (h.setLane k x).takesFrames = h.takesFrames := rfl

@[simp] theorem House.setBowler_lane (h : House) (k : Nat) (x : Option BowlerRecord) (n : Nat) :
    (h.setBowler k x).lane n = h.lane n := rfl
theorem House.setBowler_bowler (h : House) (k : Nat) (x : Option BowlerRecord) (n : Nat) :
    (h.setBowler k x).bowler n = if n = k ∧ 1 ≤ k ∧ k ≤ 384 then x else h.bowler n := numGet_numSet ..
@[simp] theorem House.setBowler_squad (h : House) (k : Nat) (x : Option BowlerRecord) (n : Nat) :
    (h.setBowler k x).squad n = h.squad n := rfl
@[simp] theorem House.setBowler_tab (h : House) (k : Nat) (x : Option BowlerRecord) (n : Nat) :
    (h.setBowler k x).tab n = h.tab n := rfl
@[simp] theorem House.setBowler_plan (h : House) (k : Nat) (x : Option BowlerRecord) (n : Nat) :
    (h.setBowler k x).plan n = h.plan n := rfl
@[simp] theorem House.setBowler_ret (h : House) (k : Nat) (x : Option BowlerRecord) (n : Nat) :
    (h.setBowler k x).ret n = h.ret n := rfl
@[simp] theorem House.setBowler_slot (h : House) (k : Nat) (x : Option BowlerRecord) (n : Nat) :
    (h.setBowler k x).slot n = h.slot n := rfl
@[simp] theorem House.setBowler_unqueued (h : House) (k : Nat) (x : Option BowlerRecord) (n : Nat) :
    (h.setBowler k x).unqueued n = h.unqueued n := rfl
@[simp] theorem House.setBowler_now (h : House) (k : Nat) (x : Option BowlerRecord) : (h.setBowler k x).now = h.now := rfl
@[simp] theorem House.setBowler_stamp (h : House) (k : Nat) (x : Option BowlerRecord) : (h.setBowler k x).stamp = h.stamp := rfl
@[simp] theorem House.setBowler_runs (h : House) (k : Nat) (x : Option BowlerRecord) : (h.setBowler k x).runs = h.runs := rfl
@[simp] theorem House.setBowler_takesFrames (h : House) (k : Nat) (x : Option BowlerRecord) : (h.setBowler k x).takesFrames = h.takesFrames := rfl

@[simp] theorem House.setSquad_lane (h : House) (k : Nat) (x : Option SquadRecord) (n : Nat) :
    (h.setSquad k x).lane n = h.lane n := rfl
@[simp] theorem House.setSquad_bowler (h : House) (k : Nat) (x : Option SquadRecord) (n : Nat) :
    (h.setSquad k x).bowler n = h.bowler n := rfl
theorem House.setSquad_squad (h : House) (k : Nat) (x : Option SquadRecord) (n : Nat) :
    (h.setSquad k x).squad n = if n = k ∧ 1 ≤ k ∧ k ≤ 48 then x else h.squad n := numGet_numSet ..
@[simp] theorem House.setSquad_tab (h : House) (k : Nat) (x : Option SquadRecord) (n : Nat) :
    (h.setSquad k x).tab n = h.tab n := rfl
@[simp] theorem House.setSquad_plan (h : House) (k : Nat) (x : Option SquadRecord) (n : Nat) :
    (h.setSquad k x).plan n = h.plan n := rfl
@[simp] theorem House.setSquad_ret (h : House) (k : Nat) (x : Option SquadRecord) (n : Nat) :
    (h.setSquad k x).ret n = h.ret n := rfl
@[simp] theorem House.setSquad_slot (h : House) (k : Nat) (x : Option SquadRecord) (n : Nat) :
    (h.setSquad k x).slot n = h.slot n := rfl
@[simp] theorem House.setSquad_unqueued (h : House) (k : Nat) (x : Option SquadRecord) (n : Nat) :
    (h.setSquad k x).unqueued n = h.unqueued n := rfl
@[simp] theorem House.setSquad_now (h : House) (k : Nat) (x : Option SquadRecord) : (h.setSquad k x).now = h.now := rfl
@[simp] theorem House.setSquad_stamp (h : House) (k : Nat) (x : Option SquadRecord) : (h.setSquad k x).stamp = h.stamp := rfl
@[simp] theorem House.setSquad_runs (h : House) (k : Nat) (x : Option SquadRecord) : (h.setSquad k x).runs = h.runs := rfl
@[simp] theorem House.setSquad_takesFrames (h : House) (k : Nat) (x : Option SquadRecord) : (h.setSquad k x).takesFrames = h.takesFrames := rfl

@[simp] theorem House.setTab_lane (h : House) (k : Nat) (x : Option TabRecord) (n : Nat) :
    (h.setTab k x).lane n = h.lane n := rfl
@[simp] theorem House.setTab_bowler (h : House) (k : Nat) (x : Option TabRecord) (n : Nat) :
    (h.setTab k x).bowler n = h.bowler n := rfl
@[simp] theorem House.setTab_squad (h : House) (k : Nat) (x : Option TabRecord) (n : Nat) :
    (h.setTab k x).squad n = h.squad n := rfl
theorem House.setTab_tab (h : House) (k : Nat) (x : Option TabRecord) (n : Nat) :
    (h.setTab k x).tab n = if n = k ∧ 1 ≤ k ∧ k ≤ 64 then x else h.tab n := numGet_numSet ..
@[simp] theorem House.setTab_plan (h : House) (k : Nat) (x : Option TabRecord) (n : Nat) :
    (h.setTab k x).plan n = h.plan n := rfl
@[simp] theorem House.setTab_ret (h : House) (k : Nat) (x : Option TabRecord) (n : Nat) :
    (h.setTab k x).ret n = h.ret n := rfl
@[simp] theorem House.setTab_slot (h : House) (k : Nat) (x : Option TabRecord) (n : Nat) :
    (h.setTab k x).slot n = h.slot n := rfl
@[simp] theorem House.setTab_unqueued (h : House) (k : Nat) (x : Option TabRecord) (n : Nat) :
    (h.setTab k x).unqueued n = h.unqueued n := rfl
@[simp] theorem House.setTab_now (h : House) (k : Nat) (x : Option TabRecord) : (h.setTab k x).now = h.now := rfl
@[simp] theorem House.setTab_stamp (h : House) (k : Nat) (x : Option TabRecord) : (h.setTab k x).stamp = h.stamp := rfl
@[simp] theorem House.setTab_runs (h : House) (k : Nat) (x : Option TabRecord) : (h.setTab k x).runs = h.runs := rfl
@[simp] theorem House.setTab_takesFrames (h : House) (k : Nat) (x : Option TabRecord) : (h.setTab k x).takesFrames = h.takesFrames := rfl

@[simp] theorem House.setPlan_lane (h : House) (k : Nat) (x : Option RatePlan) (n : Nat) :
    (h.setPlan k x).lane n = h.lane n := rfl
@[simp] theorem House.setPlan_bowler (h : House) (k : Nat) (x : Option RatePlan) (n : Nat) :
    (h.setPlan k x).bowler n = h.bowler n := rfl
@[simp] theorem House.setPlan_squad (h : House) (k : Nat) (x : Option RatePlan) (n : Nat) :
    (h.setPlan k x).squad n = h.squad n := rfl
@[simp] theorem House.setPlan_tab (h : House) (k : Nat) (x : Option RatePlan) (n : Nat) :
    (h.setPlan k x).tab n = h.tab n := rfl
theorem House.setPlan_plan (h : House) (k : Nat) (x : Option RatePlan) (n : Nat) :
    (h.setPlan k x).plan n = if n = k ∧ k < 8 then x else h.plan n := by
  simp only [House.plan, House.setPlan, numGet_numSet]
  congr 1
  exact propext (by omega)
@[simp] theorem House.setPlan_ret (h : House) (k : Nat) (x : Option RatePlan) (n : Nat) :
    (h.setPlan k x).ret n = h.ret n := rfl
@[simp] theorem House.setPlan_slot (h : House) (k : Nat) (x : Option RatePlan) (n : Nat) :
    (h.setPlan k x).slot n = h.slot n := rfl
@[simp] theorem House.setPlan_unqueued (h : House) (k : Nat) (x : Option RatePlan) (n : Nat) :
    (h.setPlan k x).unqueued n = h.unqueued n := rfl
@[simp] theorem House.setPlan_now (h : House) (k : Nat) (x : Option RatePlan) : (h.setPlan k x).now = h.now := rfl
@[simp] theorem House.setPlan_stamp (h : House) (k : Nat) (x : Option RatePlan) : (h.setPlan k x).stamp = h.stamp := rfl
@[simp] theorem House.setPlan_runs (h : House) (k : Nat) (x : Option RatePlan) : (h.setPlan k x).runs = h.runs := rfl
@[simp] theorem House.setPlan_takesFrames (h : House) (k : Nat) (x : Option RatePlan) : (h.setPlan k x).takesFrames = h.takesFrames := rfl

@[simp] theorem House.setRet_lane (h : House) (k : Nat) (x : ReturnRecord) (n : Nat) :
    (h.setRet k x).lane n = h.lane n := rfl
@[simp] theorem House.setRet_bowler (h : House) (k : Nat) (x : ReturnRecord) (n : Nat) :
    (h.setRet k x).bowler n = h.bowler n := rfl
@[simp] theorem House.setRet_squad (h : House) (k : Nat) (x : ReturnRecord) (n : Nat) :
    (h.setRet k x).squad n = h.squad n := rfl
@[simp] theorem House.setRet_tab (h : House) (k : Nat) (x : ReturnRecord) (n : Nat) :
    (h.setRet k x).tab n = h.tab n := rfl
@[simp] theorem House.setRet_plan (h : House) (k : Nat) (x : ReturnRecord) (n : Nat) :
    (h.setRet k x).plan n = h.plan n := rfl
theorem House.setRet_ret (h : House) (k : Nat) (x : ReturnRecord) (n : Nat) :
    (h.setRet k x).ret n = if n = k ∧ 1 ≤ k ∧ k ≤ 24 then x else h.ret n := numGet_numSet ..
@[simp] theorem House.setRet_slot (h : House) (k : Nat) (x : ReturnRecord) (n : Nat) :
    (h.setRet k x).slot n = h.slot n := rfl
@[simp] theorem House.setRet_unqueued (h : House) (k : Nat) (x : ReturnRecord) (n : Nat) :
    (h.setRet k x).unqueued n = h.unqueued n := rfl
@[simp] theorem House.setRet_now (h : House) (k : Nat) (x : ReturnRecord) : (h.setRet k x).now = h.now := rfl
@[simp] theorem House.setRet_stamp (h : House) (k : Nat) (x : ReturnRecord) : (h.setRet k x).stamp = h.stamp := rfl
@[simp] theorem House.setRet_runs (h : House) (k : Nat) (x : ReturnRecord) : (h.setRet k x).runs = h.runs := rfl
@[simp] theorem House.setRet_takesFrames (h : House) (k : Nat) (x : ReturnRecord) : (h.setRet k x).takesFrames = h.takesFrames := rfl

@[simp] theorem House.setSlot_lane (h : House) (k : Nat) (x : ModuleSlot) (n : Nat) :
    (h.setSlot k x).lane n = h.lane n := rfl
@[simp] theorem House.setSlot_bowler (h : House) (k : Nat) (x : ModuleSlot) (n : Nat) :
    (h.setSlot k x).bowler n = h.bowler n := rfl
@[simp] theorem House.setSlot_squad (h : House) (k : Nat) (x : ModuleSlot) (n : Nat) :
    (h.setSlot k x).squad n = h.squad n := rfl
@[simp] theorem House.setSlot_tab (h : House) (k : Nat) (x : ModuleSlot) (n : Nat) :
    (h.setSlot k x).tab n = h.tab n := rfl
@[simp] theorem House.setSlot_plan (h : House) (k : Nat) (x : ModuleSlot) (n : Nat) :
    (h.setSlot k x).plan n = h.plan n := rfl
@[simp] theorem House.setSlot_ret (h : House) (k : Nat) (x : ModuleSlot) (n : Nat) :
    (h.setSlot k x).ret n = h.ret n := rfl
theorem House.setSlot_slot (h : House) (k : Nat) (x : ModuleSlot) (n : Nat) :
    (h.setSlot k x).slot n = if n = k ∧ 1 ≤ k ∧ k ≤ 24 then x else h.slot n := numGet_numSet ..
@[simp] theorem House.setSlot_unqueued (h : House) (k : Nat) (x : ModuleSlot) (n : Nat) :
    (h.setSlot k x).unqueued n = h.unqueued n := rfl
@[simp] theorem House.setSlot_now (h : House) (k : Nat) (x : ModuleSlot) : (h.setSlot k x).now = h.now := rfl
@[simp] theorem House.setSlot_stamp (h : House) (k : Nat) (x : ModuleSlot) : (h.setSlot k x).stamp = h.stamp := rfl
@[simp] theorem House.setSlot_runs (h : House) (k : Nat) (x : ModuleSlot) : (h.setSlot k x).runs = h.runs := rfl
@[simp] theorem House.setSlot_takesFrames (h : House) (k : Nat) (x : ModuleSlot) : (h.setSlot k x).takesFrames = h.takesFrames := rfl

@[simp] theorem House.setUnqueued_lane (h : House) (k : Nat) (x : UnqueuedSet) (n : Nat) :
    (h.setUnqueued k x).lane n = h.lane n := rfl
@[simp] theorem House.setUnqueued_bowler (h : House) (k : Nat) (x : UnqueuedSet) (n : Nat) :
    (h.setUnqueued k x).bowler n = h.bowler n := rfl
@[simp] theorem House.setUnqueued_squad (h : House) (k : Nat) (x : UnqueuedSet) (n : Nat) :
    (h.setUnqueued k x).squad n = h.squad n := rfl
@[simp] theorem House.setUnqueued_tab (h : House) (k : Nat) (x : UnqueuedSet) (n : Nat) :
    (h.setUnqueued k x).tab n = h.tab n := rfl
@[simp] theorem House.setUnqueued_plan (h : House) (k : Nat) (x : UnqueuedSet) (n : Nat) :
    (h.setUnqueued k x).plan n = h.plan n := rfl
@[simp] theorem House.setUnqueued_ret (h : House) (k : Nat) (x : UnqueuedSet) (n : Nat) :
    (h.setUnqueued k x).ret n = h.ret n := rfl
@[simp] theorem House.setUnqueued_slot (h : House) (k : Nat) (x : UnqueuedSet) (n : Nat) :
    (h.setUnqueued k x).slot n = h.slot n := rfl
theorem House.setUnqueued_unqueued (h : House) (k : Nat) (x : UnqueuedSet) (n : Nat) :
    (h.setUnqueued k x).unqueued n = if n = k ∧ 1 ≤ k ∧ k ≤ 48 then x else h.unqueued n := numGet_numSet ..
@[simp] theorem House.setUnqueued_now (h : House) (k : Nat) (x : UnqueuedSet) : (h.setUnqueued k x).now = h.now := rfl
@[simp] theorem House.setUnqueued_stamp (h : House) (k : Nat) (x : UnqueuedSet) : (h.setUnqueued k x).stamp = h.stamp := rfl
@[simp] theorem House.setUnqueued_runs (h : House) (k : Nat) (x : UnqueuedSet) : (h.setUnqueued k x).runs = h.runs := rfl
@[simp] theorem House.setUnqueued_takesFrames (h : House) (k : Nat) (x : UnqueuedSet) : (h.setUnqueued k x).takesFrames = h.takesFrames := rfl

@[simp] theorem House.answer_lane (h : House) (a : Answer) (n : Nat) : (h.answer a).lane n = h.lane n := rfl
@[simp] theorem House.answer_bowler (h : House) (a : Answer) (n : Nat) : (h.answer a).bowler n = h.bowler n := rfl
@[simp] theorem House.answer_squad (h : House) (a : Answer) (n : Nat) : (h.answer a).squad n = h.squad n := rfl
@[simp] theorem House.answer_tab (h : House) (a : Answer) (n : Nat) : (h.answer a).tab n = h.tab n := rfl
@[simp] theorem House.answer_plan (h : House) (a : Answer) (n : Nat) : (h.answer a).plan n = h.plan n := rfl
@[simp] theorem House.answer_ret (h : House) (a : Answer) (n : Nat) : (h.answer a).ret n = h.ret n := rfl
@[simp] theorem House.answer_slot (h : House) (a : Answer) (n : Nat) : (h.answer a).slot n = h.slot n := rfl
@[simp] theorem House.answer_unqueued (h : House) (a : Answer) (n : Nat) : (h.answer a).unqueued n = h.unqueued n := rfl
@[simp] theorem House.refreshSummary_lane (h : House) (n : Nat) : h.refreshSummary.lane n = h.lane n := rfl
@[simp] theorem House.refreshSummary_bowler (h : House) (n : Nat) : h.refreshSummary.bowler n = h.bowler n := rfl
@[simp] theorem House.refreshSummary_squad (h : House) (n : Nat) : h.refreshSummary.squad n = h.squad n := rfl
@[simp] theorem House.refreshSummary_tab (h : House) (n : Nat) : h.refreshSummary.tab n = h.tab n := rfl
@[simp] theorem House.refreshSummary_plan (h : House) (n : Nat) : h.refreshSummary.plan n = h.plan n := rfl
@[simp] theorem House.refreshSummary_ret (h : House) (n : Nat) : h.refreshSummary.ret n = h.ret n := rfl
@[simp] theorem House.refreshSummary_slot (h : House) (n : Nat) : h.refreshSummary.slot n = h.slot n := rfl
@[simp] theorem House.refreshSummary_unqueued (h : House) (n : Nat) : h.refreshSummary.unqueued n = h.unqueued n := rfl

@[simp] theorem House.setLane_self (h : House) (n : Nat) : h.setLane n (h.lane n) = h := by
  simp [House.setLane, House.lane, numSet_self]

@[simp] theorem House.setLane_setLane (h : House) (n : Nat) (a b : LaneRecord) :
    (h.setLane n a).setLane n b = h.setLane n b := by
  simp [House.setLane, numSet_numSet]

@[simp] theorem House.setSlot_self (h : House) (p : Nat) : h.setSlot p (h.slot p) = h := by
  simp [House.setSlot, House.slot, numSet_self]

@[simp] theorem House.setRet_self (h : House) (p : Nat) : h.setRet p (h.ret p) = h := by
  simp [House.setRet, House.ret, numSet_self]

theorem House.setLane_lane_same (h : House) (n : Nat) (l : LaneRecord) (lane : isLane n = true) :
    (h.setLane n l).lane n = l := by
  rw [House.setLane_lane, if_pos ⟨rfl, (isLane_iff n).1 lane⟩]

theorem House.setLane_lane_other (h : House) (n m : Nat) (l : LaneRecord) (other : m ≠ n) :
    (h.setLane n l).lane m = h.lane m := by
  rw [House.setLane_lane, if_neg fun e => other e.1]

theorem House.setSlot_slot_same (h : House) (p : Nat) (m : ModuleSlot) (pair : isPair p = true) :
    (h.setSlot p m).slot p = m := by
  rw [House.setSlot_slot, if_pos ⟨rfl, (isPair_iff p).1 pair⟩]

theorem House.setRet_ret_same (h : House) (p : Nat) (r : ReturnRecord) (pair : isPair p = true) :
    (h.setRet p r).ret p = r := by
  rw [House.setRet_ret, if_pos ⟨rfl, (isPair_iff p).1 pair⟩]

/-! ### Hold causes -/

theorem CauseSet.has_put (c : CauseSet) (k j : HoldCause) (b : Bool) :
    (c.put k b).has j = if j = k then b else c.has j := by
  cases k <;> cases j <;> rfl

theorem CauseSet.isNone_iff (c : CauseSet) : c.isNone = true ↔ ∀ k, c.has k = false := by
  constructor
  · intro h k; cases k <;> simp_all [CauseSet.isNone, CauseSet.has]
  · intro h
    have a := h .attention; have b := h .call; have d := h .link; have e := h .restart; have f := h .desk
    have g := h .allowance
    simp_all [CauseSet.isNone, CauseSet.has]

/-- An added cause is held where the lane keeps causes, and no other cause comes or goes (R4, R5). -/
theorem LaneRecord.addCause_has (l : LaneRecord) (c k : HoldCause) :
    (l.addCause c).causes.has k = (l.causes.has k || (l.keepsCauses && decide (k = c))) := by
  unfold LaneRecord.addCause
  by_cases keeps : l.keepsCauses = true
  · by_cases held : l.causes.has c = true
    · by_cases e : k = c
      · subst e; simp [held]
      · simp [held, e]
    · simp only [keeps, held, Bool.not_true, Bool.or_false, Bool.false_eq_true, if_false, Bool.true_and]
      split <;> simp [CauseSet.has_put, Bool.or_comm]
  · simp [keeps]

/-- A removed cause is held no more where the lane keeps causes, and no other cause comes or goes (R6). -/
theorem LaneRecord.removeCause_has (l : LaneRecord) (c k : HoldCause) :
    (l.removeCause c).causes.has k = (l.causes.has k && !(l.keepsCauses && decide (k = c))) := by
  unfold LaneRecord.removeCause
  by_cases keeps : l.keepsCauses = true
  · simp [keeps, CauseSet.has_put]
    by_cases e : k = c <;> simp [e]
  · simp [keeps]

/-- The mode after a cause is added: a LIVE lane is HELD, any other keeps its mode (R5). -/
theorem LaneRecord.addCause_mode (l : LaneRecord) (c : HoldCause) :
    (l.addCause c).mode = if l.keepsCauses && !l.causes.has c && decide (l.mode = .live) then .held else l.mode := by
  unfold LaneRecord.addCause
  by_cases keeps : l.keepsCauses = true
  · by_cases held : l.causes.has c = true
    · simp [held]
    · by_cases live : l.mode = .live <;> simp [keeps, held, live] <;> split <;> simp
  · simp [keeps]

/-! ### Orders -/

/-- All that giving an order can do (R178): nothing to an absent module, the order appended to a buffer with room, and the
overflow noted of a full one. -/
theorem House.giveOrder_cases (h : House) (n : Nat) (o : OrderKind) :
    ((h.slot (pairOf n)).present = false ∧ h.giveOrder n o = h) ∨
    ((h.slot (pairOf n)).present = true ∧ (h.slot (pairOf n)).orders.length < 8 ∧
      h.giveOrder n o = h.setSlot (pairOf n) { h.slot (pairOf n) with
        orders := (h.slot (pairOf n)).orders ++ [{ even := decide (n % 2 = 0), kind := o }] }) ∨
    ((h.slot (pairOf n)).present = true ∧ 8 ≤ (h.slot (pairOf n)).orders.length ∧
      h.giveOrder n o = h.setSlot (pairOf n) { h.slot (pairOf n) with overflowed := true }) := by
  unfold House.giveOrder
  by_cases present : (h.slot (pairOf n)).present = true
  · by_cases room : (h.slot (pairOf n)).orders.length < 8
    · exact .inr (.inl ⟨present, room, by simp [present, room]⟩)
    · exact .inr (.inr ⟨present, by omega, by simp [present, room]⟩)
  · exact .inl ⟨by simpa using present, by simp [present]⟩

@[simp] theorem House.giveOrder_lane (h : House) (n m : Nat) (o : OrderKind) : (h.giveOrder n o).lane m = h.lane m := by
  rcases h.giveOrder_cases n o with ⟨-, e⟩ | ⟨-, -, e⟩ | ⟨-, -, e⟩ <;> rw [e] <;> simp

/-! ### Cycles -/

/-- The lane record after a cycle is ordered on it (R38). -/
theorem House.orderCycle_lane (h : House) (n : Nat) (kind : CycleKind) (pins : PinSet) (retry : Bool) (m : Nat) :
    (h.orderCycle n kind pins retry).lane m =
      if m = n ∧ 1 ≤ n ∧ n ≤ 48 then
        { h.lane n with
          cycle := some { kind := normalCycle kind pins, commanded := commandedSet (normalCycle kind pins) pins,
                          deadline := h.now + (h.lane n).options.cycleTimeout, retry := retry },
          deck := .cycling }
      else h.lane m := by
  simp [House.orderCycle, House.setLane_lane]

/-! ### The end of a step -/

/-- Where no buffer has been found full, the end of a step writes the summary and the ATTN line and nothing else (R177). -/
theorem House.settle_of_room (h : House) (room : ∀ p, (h.slot p).overflowed = false) : h.settle = h.refreshSummary := by
  have : h.declareOverflows = h := by
    unfold House.declareOverflows
    exact foldl_keeps (fun b => b = h) _ _ h rfl fun b p _ e => by subst e; simp [room p]
  rw [House.settle, this]

/-- Where the summary already follows the records, writing it afresh changes nothing (R177). -/
theorem House.refreshSummary_of_follows (h : House) (follows : h.summaryFollows) : h.refreshSummary = h := by
  obtain ⟨a, b⟩ := follows
  simp only [House.refreshSummary, ← a]
  rw [a, ← b, ← a]

theorem House.slot_outside (h : House) (p : Nat) (out : ¬(1 ≤ p ∧ p ≤ 24)) : h.slot p = .cold := numGet_outside _ _ _ out

theorem House.lane_outside (h : House) (n : Nat) (out : ¬(1 ≤ n ∧ n ≤ 48)) : h.lane n = .cold := numGet_outside _ _ _ out

theorem House.ret_outside (h : House) (p : Nat) (out : ¬(1 ≤ p ∧ p ≤ 24)) : h.ret p = .cold := numGet_outside _ _ _ out

theorem House.tab_outside (h : House) (t : Nat) (out : ¬(1 ≤ t ∧ t ≤ 64)) : h.tab t = none := numGet_outside _ _ _ out

/-- The condition on the slots 1 to 24 holds of every number: a slot outside the house is a cold one. -/
theorem House.slotsFit_all (h : House) (fit : h.slotsFit) (p : Nat) : (h.slot p).fits = true := by
  by_cases inside : 1 ≤ p ∧ p ≤ 24
  · exact fit p ((mem_numbers 24 p).2 inside)
  · rw [h.slot_outside p inside]; decide

theorem House.overflowed_of_slotsFit (h : House) (fit : h.slotsFit) (p : Nat) : (h.slot p).overflowed = false := by
  have := h.slotsFit_all fit p
  simp [ModuleSlot.fits] at this
  exact this.2

/-- A quiet house stays as it is at the end of a step (R177, R178). -/
theorem House.settle_of_quiet (h : House) (quiet : h.quiet) : h.settle = h := by
  rw [h.settle_of_room (h.overflowed_of_slotsFit quiet.1), h.refreshSummary_of_follows quiet.2]

/-- The end of a step depends on the lanes, the tabs and the slots alone where no buffer has been found full: a house that
agrees in them with a quiet one, and in its summary and ATTN line, is quiet. -/
theorem House.quiet_of_same (h k : House) (quiet : h.quiet) (machine : k.machine.slots = h.machine.slots)
    (lanes : k.lanes = h.lanes) (tabs : k.tabs = h.tabs) (summary : k.port.summary = h.port.summary)
    (attn : k.port.attn = h.port.attn) : k.quiet := by
  have slot (p : Nat) : k.slot p = h.slot p := by simp [House.slot, machine]
  have form : k.formSummary = h.formSummary := by
    simp [House.formSummary, House.lane, House.tab, House.slot, machine, lanes, tabs]
  refine ⟨fun p m => ?_, ?_, ?_⟩
  · rw [slot]; exact quiet.1 p m
  · rw [summary, form]; exact quiet.2.1
  · rw [attn, form]; exact quiet.2.2

end Sys2Proof.Machine
end

