-- ==== Sys2Proof/Laws/Frames.lean ====
section
/-! SUPPORT. The frames of the shared operations: for each, the banks and registers of the house that it leaves as they
were. A bank that a lemma does not name is one the operation may write. Every lemma is a rewrite rule of the simplifier,
so that the frame of a command follows from the frames of what it calls. -/

namespace Sys2Proof.Machine

open Sys2Proof

/-! ### Causes, orders and cycles (chapters 1 and 2) -/

@[simp] theorem House.report_frame (h : House) (n : Nat) :
    (h.report n).lanes = h.lanes ∧ (h.report n).bowlers = h.bowlers ∧ (h.report n).squads = h.squads ∧
      (h.report n).returns = h.returns ∧ (h.report n).calls = h.calls ∧ (h.report n).plans = h.plans ∧
      (h.report n).machine = h.machine ∧ (h.report n).port = h.port ∧ (h.report n).clock = h.clock ∧
      (h.report n).memory = h.memory := by
  unfold House.report; (repeat' split) <;> simp

@[simp] theorem House.giveOrder_frame (h : House) (n : Nat) (o : OrderKind) :
    (h.giveOrder n o).lanes = h.lanes ∧ (h.giveOrder n o).bowlers = h.bowlers ∧ (h.giveOrder n o).squads = h.squads ∧
      (h.giveOrder n o).returns = h.returns ∧ (h.giveOrder n o).calls = h.calls ∧ (h.giveOrder n o).tabs = h.tabs ∧
      (h.giveOrder n o).plans = h.plans ∧ (h.giveOrder n o).port = h.port ∧ (h.giveOrder n o).clock = h.clock ∧
      (h.giveOrder n o).memory = h.memory := by
  unfold House.giveOrder; dsimp only; (repeat' split) <;> simp

@[simp] theorem House.addCause_frame (h : House) (n : Nat) (c : HoldCause) :
    (h.addCause n c).bowlers = h.bowlers ∧ (h.addCause n c).squads = h.squads ∧ (h.addCause n c).returns = h.returns ∧
      (h.addCause n c).calls = h.calls ∧ (h.addCause n c).plans = h.plans ∧ (h.addCause n c).machine = h.machine ∧
      (h.addCause n c).port = h.port ∧ (h.addCause n c).clock = h.clock ∧ (h.addCause n c).memory = h.memory := by
  simp [House.addCause]

@[simp] theorem House.removeCause_frame (h : House) (n : Nat) (c : HoldCause) :
    (h.removeCause n c).bowlers = h.bowlers ∧ (h.removeCause n c).squads = h.squads ∧ (h.removeCause n c).returns = h.returns ∧
      (h.removeCause n c).calls = h.calls ∧ (h.removeCause n c).plans = h.plans ∧ (h.removeCause n c).machine = h.machine ∧
      (h.removeCause n c).port = h.port ∧ (h.removeCause n c).clock = h.clock ∧ (h.removeCause n c).memory = h.memory := by
  simp [House.removeCause]

@[simp] theorem House.orderCycle_frame (h : House) (n : Nat) (kind : CycleKind) (pins : PinSet) (retry : Bool) :
    (h.orderCycle n kind pins retry).bowlers = h.bowlers ∧ (h.orderCycle n kind pins retry).squads = h.squads ∧ (h.orderCycle n kind pins retry).returns = h.returns ∧
      (h.orderCycle n kind pins retry).calls = h.calls ∧ (h.orderCycle n kind pins retry).tabs = h.tabs ∧ (h.orderCycle n kind pins retry).plans = h.plans ∧
      (h.orderCycle n kind pins retry).port = h.port ∧ (h.orderCycle n kind pins retry).clock = h.clock ∧ (h.orderCycle n kind pins retry).memory = h.memory := by
  simp [House.orderCycle]

@[simp] theorem House.beginRecovery_frame (h : House) (n : Nat) :
    (h.beginRecovery n).bowlers = h.bowlers ∧ (h.beginRecovery n).squads = h.squads ∧ (h.beginRecovery n).returns = h.returns ∧
      (h.beginRecovery n).calls = h.calls ∧ (h.beginRecovery n).tabs = h.tabs ∧ (h.beginRecovery n).plans = h.plans ∧
      (h.beginRecovery n).port = h.port ∧ (h.beginRecovery n).clock = h.clock ∧ (h.beginRecovery n).memory = h.memory := by
  simp [House.beginRecovery]

@[simp] theorem House.startRecovery_frame (h : House) (n : Nat) :
    (h.startRecovery n).bowlers = h.bowlers ∧ (h.startRecovery n).squads = h.squads ∧ (h.startRecovery n).returns = h.returns ∧
      (h.startRecovery n).calls = h.calls ∧ (h.startRecovery n).tabs = h.tabs ∧ (h.startRecovery n).plans = h.plans ∧
      (h.startRecovery n).port = h.port ∧ (h.startRecovery n).clock = h.clock ∧ (h.startRecovery n).memory = h.memory := by
  unfold House.startRecovery; dsimp only; (repeat' split) <;> simp

@[simp] theorem House.handNeed_frame (h : House) (n : Nat) (kind : CycleKind) (pins : PinSet) :
    (h.handNeed n kind pins).bowlers = h.bowlers ∧ (h.handNeed n kind pins).squads = h.squads ∧ (h.handNeed n kind pins).returns = h.returns ∧
      (h.handNeed n kind pins).calls = h.calls ∧ (h.handNeed n kind pins).tabs = h.tabs ∧ (h.handNeed n kind pins).plans = h.plans ∧
      (h.handNeed n kind pins).port = h.port ∧ (h.handNeed n kind pins).clock = h.clock ∧ (h.handNeed n kind pins).memory = h.memory := by
  unfold House.handNeed; (repeat' split) <;> simp

@[simp] theorem House.startWarmUp_frame (h : House) (n : Nat) :
    (h.startWarmUp n).bowlers = h.bowlers ∧ (h.startWarmUp n).squads = h.squads ∧ (h.startWarmUp n).returns = h.returns ∧
      (h.startWarmUp n).calls = h.calls ∧ (h.startWarmUp n).tabs = h.tabs ∧ (h.startWarmUp n).plans = h.plans ∧
      (h.startWarmUp n).machine = h.machine ∧ (h.startWarmUp n).port = h.port ∧ (h.startWarmUp n).clock = h.clock ∧
      (h.startWarmUp n).memory = h.memory := by
  simp [House.startWarmUp]

@[simp] theorem House.warmAgain_frame (h : House) (n : Nat) :
    (h.warmAgain n).bowlers = h.bowlers ∧ (h.warmAgain n).squads = h.squads ∧ (h.warmAgain n).returns = h.returns ∧
      (h.warmAgain n).calls = h.calls ∧ (h.warmAgain n).tabs = h.tabs ∧ (h.warmAgain n).plans = h.plans ∧
      (h.warmAgain n).port = h.port ∧ (h.warmAgain n).clock = h.clock ∧ (h.warmAgain n).memory = h.memory := by
  simp [House.warmAgain]

/-! ### The Call Queue (chapter 8) -/

@[simp] theorem House.followCall_frame (h : House) (n : Nat) (before : Bool) :
    (h.followCall n before).bowlers = h.bowlers ∧ (h.followCall n before).squads = h.squads ∧ (h.followCall n before).returns = h.returns ∧
      (h.followCall n before).calls = h.calls ∧ (h.followCall n before).plans = h.plans ∧ (h.followCall n before).machine = h.machine ∧
      (h.followCall n before).port = h.port ∧ (h.followCall n before).clock = h.clock ∧ (h.followCall n before).memory = h.memory := by
  unfold House.followCall; (repeat' split) <;> simp

@[simp] theorem House.enterCall_frame (h : House) (n : Nat) (k : CallKind) (code : Option Half) :
    (h.enterCall n k code).lanes = h.lanes ∧ (h.enterCall n k code).bowlers = h.bowlers ∧ (h.enterCall n k code).squads = h.squads ∧
      (h.enterCall n k code).returns = h.returns ∧ (h.enterCall n k code).tabs = h.tabs ∧ (h.enterCall n k code).plans = h.plans ∧
      (h.enterCall n k code).machine = h.machine ∧ (h.enterCall n k code).port = h.port ∧ (h.enterCall n k code).clock = h.clock ∧
      (h.enterCall n k code).memory = h.memory := by
  simp [House.enterCall]

@[simp] theorem House.takeRaise_frame (h : House) (n : Nat) (k : CallKind) (code : Option Half) :
    (h.takeRaise n k code).lanes = h.lanes ∧ (h.takeRaise n k code).bowlers = h.bowlers ∧ (h.takeRaise n k code).squads = h.squads ∧
      (h.takeRaise n k code).returns = h.returns ∧ (h.takeRaise n k code).tabs = h.tabs ∧ (h.takeRaise n k code).plans = h.plans ∧
      (h.takeRaise n k code).machine = h.machine ∧ (h.takeRaise n k code).port = h.port ∧ (h.takeRaise n k code).clock = h.clock ∧
      (h.takeRaise n k code).memory = h.memory := by
  unfold House.takeRaise; (repeat' split) <;> simp

@[simp] theorem House.raiseCall_frame (h : House) (lane : Nat) (k : CallKind) (code : Option Half) :
    (h.raiseCall lane k code).bowlers = h.bowlers ∧ (h.raiseCall lane k code).squads = h.squads ∧ (h.raiseCall lane k code).returns = h.returns ∧
      (h.raiseCall lane k code).plans = h.plans ∧ (h.raiseCall lane k code).machine = h.machine ∧ (h.raiseCall lane k code).port = h.port ∧
      (h.raiseCall lane k code).clock = h.clock ∧ (h.raiseCall lane k code).memory = h.memory := by
  unfold House.raiseCall
  refine ⟨?_, ?_, ?_, ?_, ?_, ?_, ?_, ?_⟩ <;>
    exact (foldl_field _ _ (fun _ _ => by simp) _ _).trans (by simp)

@[simp] theorem House.enterUnqueued_frame (h : House) :
    h.enterUnqueued.lanes = h.lanes ∧ h.enterUnqueued.bowlers = h.bowlers ∧ h.enterUnqueued.squads = h.squads ∧
      h.enterUnqueued.returns = h.returns ∧ h.enterUnqueued.tabs = h.tabs ∧ h.enterUnqueued.plans = h.plans ∧
      h.enterUnqueued.machine = h.machine ∧ h.enterUnqueued.port = h.port ∧ h.enterUnqueued.clock = h.clock ∧
      h.enterUnqueued.memory = h.memory := by
  unfold House.enterUnqueued; (repeat' split) <;> simp

@[simp] theorem House.fillQueue_frame (h : House) :
    h.fillQueue.lanes = h.lanes ∧ h.fillQueue.bowlers = h.bowlers ∧ h.fillQueue.squads = h.squads ∧
      h.fillQueue.returns = h.returns ∧ h.fillQueue.tabs = h.tabs ∧ h.fillQueue.plans = h.plans ∧
      h.fillQueue.machine = h.machine ∧ h.fillQueue.port = h.port ∧ h.fillQueue.clock = h.clock ∧
      h.fillQueue.memory = h.memory := by
  unfold House.fillQueue
  refine ⟨?_, ?_, ?_, ?_, ?_, ?_, ?_, ?_, ?_, ?_⟩ <;>
    exact foldl_field _ _ (fun _ _ => by simp) _ _

@[simp] theorem House.removeCall_frame (h : House) (number : Nat) :
    (h.removeCall number).lanes = h.lanes ∧ (h.removeCall number).bowlers = h.bowlers ∧ (h.removeCall number).squads = h.squads ∧
      (h.removeCall number).returns = h.returns ∧ (h.removeCall number).tabs = h.tabs ∧ (h.removeCall number).plans = h.plans ∧
      (h.removeCall number).machine = h.machine ∧ (h.removeCall number).port = h.port ∧ (h.removeCall number).clock = h.clock ∧
      (h.removeCall number).memory = h.memory := by
  simp [House.removeCall]

@[simp] theorem House.retireWakeFail_frame (h : House) (n : Nat) :
    (h.retireWakeFail n).lanes = h.lanes ∧ (h.retireWakeFail n).bowlers = h.bowlers ∧ (h.retireWakeFail n).squads = h.squads ∧
      (h.retireWakeFail n).returns = h.returns ∧ (h.retireWakeFail n).tabs = h.tabs ∧ (h.retireWakeFail n).plans = h.plans ∧
      (h.retireWakeFail n).machine = h.machine ∧ (h.retireWakeFail n).port = h.port ∧ (h.retireWakeFail n).clock = h.clock ∧
      (h.retireWakeFail n).memory = h.memory := by
  unfold House.retireWakeFail; (repeat' split) <;> simp

/-! ### Squads and their games (chapters 3 and 4) -/

@[simp] theorem House.handStarts_frame (h : House) (home : Nat) (squads : List Nat) :
    (h.handStarts home squads).bowlers = h.bowlers ∧ (h.handStarts home squads).squads = h.squads ∧ (h.handStarts home squads).returns = h.returns ∧
      (h.handStarts home squads).calls = h.calls ∧ (h.handStarts home squads).tabs = h.tabs ∧ (h.handStarts home squads).plans = h.plans ∧
      (h.handStarts home squads).port = h.port ∧ (h.handStarts home squads).clock = h.clock ∧ (h.handStarts home squads).memory = h.memory := by
  unfold House.handStarts
  refine ⟨?_, ?_, ?_, ?_, ?_, ?_, ?_, ?_, ?_⟩ <;>
    exact foldl_field _ _ (fun _ _ => by (repeat' split) <;> simp) _ _

@[simp] theorem House.handSweeps_frame (h : House) (before : House) (lanes : List Nat) :
    (h.handSweeps before lanes).bowlers = h.bowlers ∧ (h.handSweeps before lanes).squads = h.squads ∧ (h.handSweeps before lanes).returns = h.returns ∧
      (h.handSweeps before lanes).calls = h.calls ∧ (h.handSweeps before lanes).tabs = h.tabs ∧ (h.handSweeps before lanes).plans = h.plans ∧
      (h.handSweeps before lanes).port = h.port ∧ (h.handSweeps before lanes).clock = h.clock ∧ (h.handSweeps before lanes).memory = h.memory := by
  unfold House.handSweeps
  refine ⟨?_, ?_, ?_, ?_, ?_, ?_, ?_, ?_, ?_⟩ <;>
    exact foldl_field _ _ (fun _ _ => by (repeat' split) <;> simp) _ _

@[simp] theorem House.stopSquad_frame (h : House) (q : Nat) (point : StopPoint) :
    (h.stopSquad q point).bowlers = h.bowlers ∧ (h.stopSquad q point).returns = h.returns ∧ (h.stopSquad q point).calls = h.calls ∧
      (h.stopSquad q point).plans = h.plans ∧ (h.stopSquad q point).machine = h.machine ∧ (h.stopSquad q point).port = h.port ∧
      (h.stopSquad q point).clock = h.clock ∧ (h.stopSquad q point).memory = h.memory := by
  unfold House.stopSquad; (repeat' split) <;> simp

@[simp] theorem House.stopAtStart_frame (h : House) (q : Nat) :
    (h.stopAtStart q).bowlers = h.bowlers ∧ (h.stopAtStart q).returns = h.returns ∧ (h.stopAtStart q).calls = h.calls ∧
      (h.stopAtStart q).plans = h.plans ∧ (h.stopAtStart q).machine = h.machine ∧ (h.stopAtStart q).port = h.port ∧
      (h.stopAtStart q).clock = h.clock ∧ (h.stopAtStart q).memory = h.memory := by
  unfold House.stopAtStart; (repeat' split) <;> simp

@[simp] theorem House.stopAtFrame_frame (h : House) (q f : Nat) :
    (h.stopAtFrame q f).bowlers = h.bowlers ∧ (h.stopAtFrame q f).returns = h.returns ∧ (h.stopAtFrame q f).calls = h.calls ∧
      (h.stopAtFrame q f).plans = h.plans ∧ (h.stopAtFrame q f).machine = h.machine ∧ (h.stopAtFrame q f).port = h.port ∧
      (h.stopAtFrame q f).clock = h.clock ∧ (h.stopAtFrame q f).memory = h.memory := by
  unfold House.stopAtFrame; dsimp only; (repeat' split) <;> simp

@[simp] theorem House.mapBowlers_frame (h : House) (order : List Nat) (change : BowlerRecord → BowlerRecord) :
    (h.mapBowlers order change).lanes = h.lanes ∧ (h.mapBowlers order change).squads = h.squads ∧ (h.mapBowlers order change).returns = h.returns ∧
      (h.mapBowlers order change).calls = h.calls ∧ (h.mapBowlers order change).tabs = h.tabs ∧ (h.mapBowlers order change).plans = h.plans ∧
      (h.mapBowlers order change).machine = h.machine ∧ (h.mapBowlers order change).port = h.port ∧ (h.mapBowlers order change).clock = h.clock ∧
      (h.mapBowlers order change).memory = h.memory := by
  unfold House.mapBowlers
  refine ⟨?_, ?_, ?_, ?_, ?_, ?_, ?_, ?_, ?_, ?_⟩ <;>
    exact foldl_field _ _ (fun _ _ => by simp) _ _

@[simp] theorem House.startSquad_frame (h : House) (q : Nat) :
    (h.startSquad q).returns = h.returns ∧ (h.startSquad q).calls = h.calls ∧ (h.startSquad q).plans = h.plans ∧
      (h.startSquad q).machine = h.machine ∧ (h.startSquad q).port = h.port ∧ (h.startSquad q).clock = h.clock ∧
      (h.startSquad q).memory = h.memory := by
  unfold House.startSquad; dsimp only; (repeat' split) <;> simp

@[simp] theorem House.closeGame_frame (h : House) (q : Nat) :
    (h.closeGame q).lanes = h.lanes ∧ (h.closeGame q).returns = h.returns ∧ (h.closeGame q).calls = h.calls ∧
      (h.closeGame q).tabs = h.tabs ∧ (h.closeGame q).plans = h.plans ∧ (h.closeGame q).machine = h.machine ∧
      (h.closeGame q).port = h.port ∧ (h.closeGame q).clock = h.clock ∧ (h.closeGame q).memory = h.memory := by
  unfold House.closeGame; (repeat' split) <;> simp

@[simp] theorem House.leaveDone_frame (h : House) (l : List Nat) :
    (h.leaveDone l).bowlers = h.bowlers ∧ (h.leaveDone l).returns = h.returns ∧ (h.leaveDone l).calls = h.calls ∧
      (h.leaveDone l).plans = h.plans ∧ (h.leaveDone l).machine = h.machine ∧ (h.leaveDone l).port = h.port ∧
      (h.leaveDone l).clock = h.clock ∧ (h.leaveDone l).memory = h.memory := by
  unfold House.leaveDone
  refine ⟨?_, ?_, ?_, ?_, ?_, ?_, ?_, ?_⟩ <;>
    exact foldl_field _ _ (fun _ _ => by (repeat' split) <;> simp) _ _

@[simp] theorem House.squadAt_frame (h : House) (q f : Nat) (state : SquadState) :
    (h.squadAt q f state).lanes = h.lanes ∧ (h.squadAt q f state).bowlers = h.bowlers ∧ (h.squadAt q f state).returns = h.returns ∧
      (h.squadAt q f state).calls = h.calls ∧ (h.squadAt q f state).tabs = h.tabs ∧ (h.squadAt q f state).plans = h.plans ∧
      (h.squadAt q f state).machine = h.machine ∧ (h.squadAt q f state).port = h.port ∧ (h.squadAt q f state).clock = h.clock ∧
      (h.squadAt q f state).memory = h.memory := by
  unfold House.squadAt; (repeat' split) <;> simp

@[simp] theorem House.placeSquad_frame (h : House) (q n : Nat) :
    (h.placeSquad q n).bowlers = h.bowlers ∧ (h.placeSquad q n).returns = h.returns ∧ (h.placeSquad q n).calls = h.calls ∧
      (h.placeSquad q n).tabs = h.tabs ∧ (h.placeSquad q n).plans = h.plans ∧ (h.placeSquad q n).machine = h.machine ∧
      (h.placeSquad q n).port = h.port ∧ (h.placeSquad q n).clock = h.clock ∧ (h.placeSquad q n).memory = h.memory := by
  unfold House.placeSquad; dsimp only; (repeat' split) <;> simp

@[simp] theorem House.makeUp_frame (h : House) (q place : Nat) :
    (h.makeUp q place).lanes = h.lanes ∧ (h.makeUp q place).returns = h.returns ∧ (h.makeUp q place).calls = h.calls ∧
      (h.makeUp q place).tabs = h.tabs ∧ (h.makeUp q place).plans = h.plans ∧ (h.makeUp q place).machine = h.machine ∧
      (h.makeUp q place).port = h.port ∧ (h.makeUp q place).clock = h.clock ∧ (h.makeUp q place).memory = h.memory := by
  unfold House.makeUp; dsimp only; (repeat' split) <;> simp

@[simp] theorem House.unstop_frame (h : House) (q : Nat) (state : SquadState) :
    (h.unstop q state).bowlers = h.bowlers ∧ (h.unstop q state).returns = h.returns ∧ (h.unstop q state).calls = h.calls ∧
      (h.unstop q state).plans = h.plans ∧ (h.unstop q state).machine = h.machine ∧ (h.unstop q state).port = h.port ∧
      (h.unstop q state).clock = h.clock ∧ (h.unstop q state).memory = h.memory := by
  unfold House.unstop; (repeat' split) <;> simp

/-- The charge of a game start changes the tabs alone (R169). -/
@[simp] theorem House.charge_frame (h : House) (n k : Nat) :
    (h.charge n k).1.lanes = h.lanes ∧ (h.charge n k).1.bowlers = h.bowlers ∧ (h.charge n k).1.squads = h.squads ∧
      (h.charge n k).1.returns = h.returns ∧ (h.charge n k).1.calls = h.calls ∧ (h.charge n k).1.plans = h.plans ∧
      (h.charge n k).1.machine = h.machine ∧ (h.charge n k).1.port = h.port ∧ (h.charge n k).1.clock = h.clock ∧
      (h.charge n k).1.memory = h.memory := by
  unfold House.charge; (repeat' split) <;> simp

/-- What the rotation of a squad leaves as it was: everything but the lanes, the bowlers, the squads, the tabs
and the orders of the modules. -/
structure House.SameOutsidePlay (h k : House) : Prop where
  returns : k.returns = h.returns
  calls : k.calls = h.calls
  plans : k.plans = h.plans
  port : k.port = h.port
  clock : k.clock = h.clock
  memory : k.memory = h.memory

theorem House.SameOutsidePlay.refl (h : House) : h.SameOutsidePlay h := ⟨rfl, rfl, rfl, rfl, rfl, rfl⟩

theorem House.SameOutsidePlay.trans {h k m : House} (a : h.SameOutsidePlay k) (b : k.SameOutsidePlay m) :
    h.SameOutsidePlay m :=
  ⟨b.1.trans a.1, b.2.trans a.2, b.3.trans a.3, b.4.trans a.4, b.5.trans a.5, b.6.trans a.6⟩

/-- A continuation of a rotation that keeps everything outside the play. -/
abbrev KeepsOutsidePlay (again : House → Nat → House) : Prop :=
  ∀ (h : House) (q : Nat), h.SameOutsidePlay (again h q)

theorem House.handStarts_outside (h : House) (home : Nat) (squads : List Nat) : h.SameOutsidePlay (h.handStarts home squads) :=
  ⟨by simp, by simp, by simp, by simp, by simp, by simp⟩

theorem House.applyCharge_outside (again : House → Nat → House) (keeps : KeepsOutsidePlay again) (h : House)
    (home : Nat) (squads : List Nat) (accepted : Bool) : h.SameOutsidePlay (House.applyCharge again h home squads accepted) := by
  unfold House.applyCharge
  split
  · refine .trans ?_ (House.handStarts_outside _ _ _)
    refine foldl_keeps (fun b => h.SameOutsidePlay b) _ _ _ ?_ fun b a _ ih => ih.trans (keeps b a)
    exact foldl_keeps (fun b => h.SameOutsidePlay b) _ _ _ (.refl h) fun b a _ ih =>
      ih.trans ⟨by simp, by simp, by simp, by simp, by simp, by simp⟩
  · exact foldl_keeps (fun b => h.SameOutsidePlay b) _ _ _ (.refl h) fun b a _ ih =>
      ih.trans ⟨by simp, by simp, by simp, by simp, by simp, by simp⟩

theorem House.leaveDone_outside (h : House) (l : List Nat) : h.SameOutsidePlay (h.leaveDone l) :=
  ⟨by simp, by simp, by simp, by simp, by simp, by simp⟩

theorem House.nextGame_outside (again : House → Nat → House) (keeps : KeepsOutsidePlay again) (h : House) (home q : Nat) :
    h.SameOutsidePlay (House.nextGame again h home q) := by
  unfold House.nextGame
  split
  · exact .refl h
  · have charged (n k : Nat) : h.SameOutsidePlay (h.charge n k).1 :=
      ⟨by simp, by simp, by simp, by simp, by simp, by simp⟩
    dsimp only
    repeat' split
    all_goals
      first
        | exact h.leaveDone_outside _
        | exact (charged _ _).trans (House.applyCharge_outside again keeps _ _ _ _)

theorem House.closeGame_outside (h : House) (q : Nat) : h.SameOutsidePlay (h.closeGame q) :=
  ⟨by simp, by simp, by simp, by simp, by simp, by simp⟩

theorem House.endGame_outside (again : House → Nat → House) (keeps : KeepsOutsidePlay again) (h : House) (home q : Nat) :
    h.SameOutsidePlay (House.endGame again h home q) := by
  unfold House.endGame
  dsimp only
  split
  · refine .trans (.trans (h.closeGame_outside q) ?_) (House.nextGame_outside again keeps _ _ _)
    split
    · exact House.closeGame_outside _ _
    · exact .refl _
  · exact (h.closeGame_outside q).trans (House.nextGame_outside again keeps _ _ _)

theorem House.swap_outside (again : House → Nat → House) (keeps : KeepsOutsidePlay again) (h : House) (q p f : Nat) :
    h.SameOutsidePlay (House.swap again h q p f) := by
  unfold House.swap
  split
  · refine .trans ?_ ((keeps _ q).trans (keeps _ p))
    exact ⟨by simp, by simp, by simp, by simp, by simp, by simp⟩
  · exact .refl h

theorem House.endSquadFrame_outside (again : House → Nat → House) (keeps : KeepsOutsidePlay again) (h : House)
    (home q : Nat) (bowled : Bool) : h.SameOutsidePlay (House.endSquadFrame again h home q bowled) := by
  have at_ (f : Nat) (state : SquadState) : h.SameOutsidePlay (h.squadAt q f state) :=
    ⟨by simp, by simp, by simp, by simp, by simp, by simp⟩
  have stop (f : Nat) : h.SameOutsidePlay (h.stopAtFrame q f) :=
    ⟨by simp, by simp, by simp, by simp, by simp, by simp⟩
  unfold House.endSquadFrame
  split
  · exact .refl h
  · dsimp only
    split
    · split
      · exact House.endGame_outside again keeps h home q
      · split
        · exact stop _
        · exact (at_ _ _).trans (keeps _ q)
    · split
      · split
        · exact at_ _ _
        · exact House.endGame_outside again keeps h home q
      · split
        · exact stop _
        · split
          · exact House.swap_outside again keeps h q _ _
          · exact at_ _ _

/-- The rotation of a squad keeps everything outside the play (R83, R84). -/
theorem House.rotate_outside (home fuel : Nat) (h : House) (q : Nat) (bowled : Bool) :
    h.SameOutsidePlay (House.rotate home fuel h q bowled) := by
  induction fuel generalizing h q bowled with
  | zero => exact .refl h
  | succ fuel ih =>
    unfold House.rotate
    split
    · exact .refl h
    · split
      · exact ⟨by simp, by simp, by simp, by simp, by simp, by simp⟩
      · exact House.endSquadFrame_outside _ (fun h q => ih h q false) h home q bowled

@[simp] theorem House.passOn_frame (h : House) (home q : Nat) (bowled : Bool) :
    (h.passOn home q bowled).returns = h.returns ∧ (h.passOn home q bowled).calls = h.calls ∧ (h.passOn home q bowled).plans = h.plans ∧
      (h.passOn home q bowled).port = h.port ∧ (h.passOn home q bowled).clock = h.clock ∧
      (h.passOn home q bowled).memory = h.memory := by
  have r := House.rotate_outside home rotationFuel h q bowled
  exact ⟨r.1, r.2, r.3, r.4, r.5, r.6⟩

@[simp] theorem House.bowlerFrameEnded_frame (h : House) (home k q : Nat) (tenth : Bool) :
    (h.bowlerFrameEnded home k q tenth).returns = h.returns ∧ (h.bowlerFrameEnded home k q tenth).calls = h.calls ∧ (h.bowlerFrameEnded home k q tenth).plans = h.plans ∧
      (h.bowlerFrameEnded home k q tenth).port = h.port ∧ (h.bowlerFrameEnded home k q tenth).clock = h.clock ∧
      (h.bowlerFrameEnded home k q tenth).memory = h.memory := by
  simp [House.bowlerFrameEnded]

/-- Recording a ball keeps everything outside the play but the orders of the modules (R51 to R60). -/
@[simp] theorem House.scoreBall_frame (h : House) (n : Nat) (d : Delivery) (after : PinSet) :
    (h.scoreBall n d after).1.returns = h.returns ∧ (h.scoreBall n d after).1.calls = h.calls ∧
      (h.scoreBall n d after).1.plans = h.plans ∧ (h.scoreBall n d after).1.port = h.port ∧
      (h.scoreBall n d after).1.clock = h.clock ∧ (h.scoreBall n d after).1.memory = h.memory := by
  unfold House.scoreBall; dsimp only; (repeat' split) <;> simp

@[simp] theorem House.leavePair_frame (h : House) (p : Nat) :
    (h.leavePair p).returns = h.returns ∧ (h.leavePair p).calls = h.calls ∧ (h.leavePair p).plans = h.plans ∧
      (h.leavePair p).port = h.port ∧ (h.leavePair p).clock = h.clock ∧
      (h.leavePair p).memory = h.memory := by
  unfold House.leavePair
  split
  · simp
  · dsimp only
    split
    · split
      · have r (h : House) := House.endGame_outside (fun h q => h.passOn 0 q false)
          (fun h q => House.rotate_outside 0 rotationFuel h q false) h 0 p
        refine ⟨(r _).1.trans ?_, (r _).2.trans ?_, (r _).3.trans ?_, (r _).4.trans ?_, (r _).5.trans ?_,
          (r _).6.trans ?_⟩ <;> simp
      · split <;> simp
    · simp

theorem House.foldBowlers_frame (l : List Nat) (h : House) :
    (l.foldl (fun h k => h.setBowler k none) h).lanes = h.lanes ∧
      (l.foldl (fun h k => h.setBowler k none) h).squads = h.squads ∧
      (l.foldl (fun h k => h.setBowler k none) h).returns = h.returns ∧
      (l.foldl (fun h k => h.setBowler k none) h).calls = h.calls ∧
      (l.foldl (fun h k => h.setBowler k none) h).tabs = h.tabs ∧
      (l.foldl (fun h k => h.setBowler k none) h).plans = h.plans ∧
      (l.foldl (fun h k => h.setBowler k none) h).machine = h.machine ∧
      (l.foldl (fun h k => h.setBowler k none) h).port = h.port ∧
      (l.foldl (fun h k => h.setBowler k none) h).clock = h.clock ∧
      (l.foldl (fun h k => h.setBowler k none) h).memory = h.memory := by
  refine ⟨?_, ?_, ?_, ?_, ?_, ?_, ?_, ?_, ?_, ?_⟩ <;> exact foldl_field _ _ (fun _ _ => by simp) _ _

@[simp] theorem House.retireSquad_frame (h : House) (q : Nat) :
    (h.retireSquad q).returns = h.returns ∧ (h.retireSquad q).calls = h.calls ∧ (h.retireSquad q).plans = h.plans ∧
      (h.retireSquad q).port = h.port ∧ (h.retireSquad q).clock = h.clock ∧ (h.retireSquad q).memory = h.memory := by
  have fold (l : List Nat) (h : House) := (House.foldBowlers_frame l h)
  unfold House.retireSquad; dsimp only; (repeat' split) <;> simp [fold]

@[simp] theorem House.reportRunOut_frame (h : House) (l : List Nat) :
    (h.reportRunOut l).bowlers = h.bowlers ∧ (h.reportRunOut l).returns = h.returns ∧ (h.reportRunOut l).calls = h.calls ∧
      (h.reportRunOut l).plans = h.plans ∧ (h.reportRunOut l).machine = h.machine ∧ (h.reportRunOut l).port = h.port ∧
      (h.reportRunOut l).clock = h.clock ∧ (h.reportRunOut l).memory = h.memory := by
  unfold House.reportRunOut
  refine ⟨?_, ?_, ?_, ?_, ?_, ?_, ?_, ?_⟩ <;>
    exact foldl_field _ _ (fun _ _ => by (repeat' split) <;> simp) _ _

@[simp] theorem House.releaseSquad_frame (h : House) (q : Nat) :
    (h.releaseSquad q).returns = h.returns ∧ (h.releaseSquad q).calls = h.calls ∧ (h.releaseSquad q).plans = h.plans ∧
      (h.releaseSquad q).port = h.port ∧ (h.releaseSquad q).clock = h.clock ∧
      (h.releaseSquad q).memory = h.memory := by
  have sw (h : House) (q p f : Nat) := House.swap_outside (fun h q => h.passOn 0 q false)
    (fun h q => House.rotate_outside 0 rotationFuel h q false) h q p f
  unfold House.releaseSquad
  split
  · simp
  · split
    · simp
    · simp
    · split
      · simp
      · split
        · refine ⟨(sw _ _ _ _).1.trans ?_, (sw _ _ _ _).2.trans ?_, (sw _ _ _ _).3.trans ?_, (sw _ _ _ _).4.trans ?_,
            (sw _ _ _ _).5.trans ?_, (sw _ _ _ _).6.trans ?_⟩ <;> simp
        · simp
    · simp

@[simp] theorem House.releaseFrom_frame (before h : House) (q : Nat) :
    (before.releaseFrom h q).returns = h.returns ∧ (before.releaseFrom h q).calls = h.calls ∧ (before.releaseFrom h q).plans = h.plans ∧
      (before.releaseFrom h q).port = h.port ∧ (before.releaseFrom h q).clock = h.clock ∧
      (before.releaseFrom h q).memory = h.memory := by
  unfold House.releaseFrom; split <;> simp

@[simp] theorem House.reportLifted_frame (h : House) (l : List Nat) :
    (h.reportLifted l).returns = h.returns ∧ (h.reportLifted l).calls = h.calls ∧ (h.reportLifted l).plans = h.plans ∧
      (h.reportLifted l).port = h.port ∧ (h.reportLifted l).clock = h.clock ∧ (h.reportLifted l).memory = h.memory := by
  unfold House.reportLifted
  refine ⟨?_, ?_, ?_, ?_, ?_, ?_⟩ <;> simp only [House.handSweeps_frame] <;>
    exact foldl_field _ _ (fun _ _ => by simp) _ _

/-! ### Discrepancies and the deck (chapters 2 and 6) -/

@[simp] theorem House.settleAttention_frame (h : House) (n : Nat) (froze : Option Discrepancy) :
    (h.settleAttention n froze).bowlers = h.bowlers ∧ (h.settleAttention n froze).squads = h.squads ∧ (h.settleAttention n froze).returns = h.returns ∧
      (h.settleAttention n froze).calls = h.calls ∧ (h.settleAttention n froze).plans = h.plans ∧ (h.settleAttention n froze).machine = h.machine ∧
      (h.settleAttention n froze).port = h.port ∧ (h.settleAttention n froze).clock = h.clock ∧ (h.settleAttention n froze).memory = h.memory := by
  unfold House.settleAttention; dsimp only; (repeat' split) <;> simp

@[simp] theorem House.recoverEmpty_frame (h : House) (n : Nat) :
    (h.recoverEmpty n).bowlers = h.bowlers ∧ (h.recoverEmpty n).squads = h.squads ∧ (h.recoverEmpty n).returns = h.returns ∧
      (h.recoverEmpty n).calls = h.calls ∧ (h.recoverEmpty n).tabs = h.tabs ∧ (h.recoverEmpty n).plans = h.plans ∧
      (h.recoverEmpty n).port = h.port ∧ (h.recoverEmpty n).clock = h.clock ∧ (h.recoverEmpty n).memory = h.memory := by
  unfold House.recoverEmpty; dsimp only; (repeat' split) <;> simp

@[simp] theorem House.voidDelivery_frame (h : House) (n : Nat) :
    (h.voidDelivery n).bowlers = h.bowlers ∧ (h.voidDelivery n).squads = h.squads ∧ (h.voidDelivery n).returns = h.returns ∧
      (h.voidDelivery n).calls = h.calls ∧ (h.voidDelivery n).tabs = h.tabs ∧ (h.voidDelivery n).plans = h.plans ∧
      (h.voidDelivery n).port = h.port ∧ (h.voidDelivery n).clock = h.clock ∧ (h.voidDelivery n).memory = h.memory := by
  simp [House.voidDelivery]

@[simp] theorem House.contextRemoved_frame (h : House) (n : Nat) :
    (h.contextRemoved n).bowlers = h.bowlers ∧ (h.contextRemoved n).squads = h.squads ∧ (h.contextRemoved n).returns = h.returns ∧
      (h.contextRemoved n).calls = h.calls ∧ (h.contextRemoved n).plans = h.plans ∧ (h.contextRemoved n).port = h.port ∧
      (h.contextRemoved n).clock = h.clock ∧ (h.contextRemoved n).memory = h.memory := by
  unfold House.contextRemoved; dsimp only; (repeat' split) <;> simp

@[simp] theorem House.startWake_frame (h : House) (n : Nat) :
    (h.startWake n).bowlers = h.bowlers ∧ (h.startWake n).squads = h.squads ∧ (h.startWake n).returns = h.returns ∧
      (h.startWake n).calls = h.calls ∧ (h.startWake n).plans = h.plans ∧ (h.startWake n).port = h.port ∧
      (h.startWake n).clock = h.clock ∧ (h.startWake n).memory = h.memory := by
  unfold House.startWake; dsimp only; (repeat' split) <;> simp

@[simp] theorem House.completeDelivery_frame (h : House) (n : Nat) (after : PinSet) :
    (h.completeDelivery n after).returns = h.returns ∧ (h.completeDelivery n after).calls = h.calls ∧ (h.completeDelivery n after).plans = h.plans ∧
      (h.completeDelivery n after).port = h.port ∧ (h.completeDelivery n after).clock = h.clock ∧ (h.completeDelivery n after).memory = h.memory := by
  unfold House.completeDelivery; dsimp only; (repeat' split) <;> simp

@[simp] theorem House.beginDelivery_frame (h : House) (n k : Nat) (speed : Option Half) :
    (h.beginDelivery n k speed).bowlers = h.bowlers ∧ (h.beginDelivery n k speed).squads = h.squads ∧ (h.beginDelivery n k speed).returns = h.returns ∧
      (h.beginDelivery n k speed).calls = h.calls ∧ (h.beginDelivery n k speed).tabs = h.tabs ∧ (h.beginDelivery n k speed).plans = h.plans ∧
      (h.beginDelivery n k speed).machine = h.machine ∧ (h.beginDelivery n k speed).port = h.port ∧ (h.beginDelivery n k speed).clock = h.clock ∧
      (h.beginDelivery n k speed).memory = h.memory := by
  simp [House.beginDelivery]

@[simp] theorem House.doubleBall_frame (h : House) (n : Nat) (d : Delivery) :
    (h.doubleBall n d).bowlers = h.bowlers ∧ (h.doubleBall n d).squads = h.squads ∧ (h.doubleBall n d).returns = h.returns ∧
      (h.doubleBall n d).calls = h.calls ∧ (h.doubleBall n d).plans = h.plans ∧ (h.doubleBall n d).machine = h.machine ∧
      (h.doubleBall n d).port = h.port ∧ (h.doubleBall n d).clock = h.clock ∧ (h.doubleBall n d).memory = h.memory := by
  unfold House.doubleBall House.raiseDiscrepancy; dsimp only; (repeat' split) <;> simp

@[simp] theorem House.earlyBall_frame (h : House) (n : Nat) :
    (h.earlyBall n).bowlers = h.bowlers ∧ (h.earlyBall n).squads = h.squads ∧ (h.earlyBall n).returns = h.returns ∧
      (h.earlyBall n).calls = h.calls ∧ (h.earlyBall n).plans = h.plans ∧ (h.earlyBall n).machine = h.machine ∧
      (h.earlyBall n).port = h.port ∧ (h.earlyBall n).clock = h.clock ∧ (h.earlyBall n).memory = h.memory := by
  unfold House.earlyBall House.raiseDiscrepancy; dsimp only; (repeat' split) <;> simp

@[simp] theorem House.playedBall_frame (h : House) (n : Nat) (speed : Option Half) :
    (h.playedBall n speed).bowlers = h.bowlers ∧ (h.playedBall n speed).squads = h.squads ∧ (h.playedBall n speed).returns = h.returns ∧
      (h.playedBall n speed).calls = h.calls ∧ (h.playedBall n speed).plans = h.plans ∧ (h.playedBall n speed).machine = h.machine ∧
      (h.playedBall n speed).port = h.port ∧ (h.playedBall n speed).clock = h.clock ∧ (h.playedBall n speed).memory = h.memory := by
  unfold House.playedBall; dsimp only; (repeat' split) <;> simp

@[simp] theorem House.pinRise_frame (h : House) (n : Nat) (d : Delivery) (reading : PinSet) :
    (h.pinRise n d reading).returns = h.returns ∧ (h.pinRise n d reading).calls = h.calls ∧ (h.pinRise n d reading).plans = h.plans ∧
      (h.pinRise n d reading).port = h.port ∧ (h.pinRise n d reading).clock = h.clock ∧ (h.pinRise n d reading).memory = h.memory := by
  unfold House.pinRise House.raiseDiscrepancy; dsimp only; (repeat' split) <;> simp

@[simp] theorem House.phantomFall_frame (h : House) (n : Nat) (reading : PinSet) :
    (h.phantomFall n reading).bowlers = h.bowlers ∧ (h.phantomFall n reading).squads = h.squads ∧ (h.phantomFall n reading).returns = h.returns ∧
      (h.phantomFall n reading).calls = h.calls ∧ (h.phantomFall n reading).plans = h.plans ∧ (h.phantomFall n reading).machine = h.machine ∧
      (h.phantomFall n reading).port = h.port ∧ (h.phantomFall n reading).clock = h.clock ∧ (h.phantomFall n reading).memory = h.memory := by
  unfold House.phantomFall House.raiseDiscrepancy; dsimp only; (repeat' split) <;> simp

@[simp] theorem House.readDeck_frame (h : House) (n : Nat) (reading : PinSet) :
    (h.readDeck n reading).returns = h.returns ∧ (h.readDeck n reading).calls = h.calls ∧ (h.readDeck n reading).plans = h.plans ∧
      (h.readDeck n reading).port = h.port ∧ (h.readDeck n reading).clock = h.clock ∧ (h.readDeck n reading).memory = h.memory := by
  unfold House.readDeck; dsimp only; (repeat' split) <;> simp

@[simp] theorem House.noReading_frame (h : House) (n : Nat) (d : Delivery) :
    (h.noReading n d).bowlers = h.bowlers ∧ (h.noReading n d).squads = h.squads ∧ (h.noReading n d).returns = h.returns ∧
      (h.noReading n d).calls = h.calls ∧ (h.noReading n d).plans = h.plans ∧ (h.noReading n d).port = h.port ∧
      (h.noReading n d).clock = h.clock ∧ (h.noReading n d).memory = h.memory := by
  unfold House.noReading House.raiseDiscrepancy; dsimp only; (repeat' split) <;> simp

@[simp] theorem House.readerFail_frame (h : House) (n : Nat) :
    (h.readerFail n).bowlers = h.bowlers ∧ (h.readerFail n).squads = h.squads ∧ (h.readerFail n).returns = h.returns ∧
      (h.readerFail n).plans = h.plans ∧ (h.readerFail n).port = h.port ∧ (h.readerFail n).clock = h.clock ∧
      (h.readerFail n).memory = h.memory := by
  unfold House.readerFail; dsimp only; (repeat' split) <;> simp

@[simp] theorem House.recoverySecond_frame (h : House) (n : Nat) :
    (h.recoverySecond n).bowlers = h.bowlers ∧ (h.recoverySecond n).squads = h.squads ∧ (h.recoverySecond n).returns = h.returns ∧
      (h.recoverySecond n).calls = h.calls ∧ (h.recoverySecond n).tabs = h.tabs ∧ (h.recoverySecond n).plans = h.plans ∧
      (h.recoverySecond n).port = h.port ∧ (h.recoverySecond n).clock = h.clock ∧ (h.recoverySecond n).memory = h.memory := by
  unfold House.recoverySecond; (repeat' split) <;> simp

@[simp] theorem House.cyclePassed_frame (h : House) (n : Nat) (c : DeckCycle) :
    (h.cyclePassed n c).bowlers = h.bowlers ∧ (h.cyclePassed n c).squads = h.squads ∧ (h.cyclePassed n c).returns = h.returns ∧
      (h.cyclePassed n c).calls = h.calls ∧ (h.cyclePassed n c).tabs = h.tabs ∧ (h.cyclePassed n c).plans = h.plans ∧
      (h.cyclePassed n c).port = h.port ∧ (h.cyclePassed n c).clock = h.clock ∧ (h.cyclePassed n c).memory = h.memory := by
  unfold House.cyclePassed; dsimp only; (repeat' split) <;> simp

@[simp] theorem House.cycleFailed_frame (h : House) (n : Nat) (c : DeckCycle) (reading : PinSet) :
    (h.cycleFailed n c reading).bowlers = h.bowlers ∧ (h.cycleFailed n c reading).squads = h.squads ∧ (h.cycleFailed n c reading).returns = h.returns ∧
      (h.cycleFailed n c reading).plans = h.plans ∧ (h.cycleFailed n c reading).port = h.port ∧ (h.cycleFailed n c reading).clock = h.clock ∧
      (h.cycleFailed n c reading).memory = h.memory := by
  unfold House.cycleFailed House.raiseDiscrepancy; dsimp only; (repeat' split) <;> simp

@[simp] theorem House.finishCycle_frame (h : House) (n : Nat) (verification : Option PinSet) :
    (h.finishCycle n verification).bowlers = h.bowlers ∧ (h.finishCycle n verification).squads = h.squads ∧ (h.finishCycle n verification).returns = h.returns ∧
      (h.finishCycle n verification).plans = h.plans ∧ (h.finishCycle n verification).port = h.port ∧ (h.finishCycle n verification).clock = h.clock ∧
      (h.finishCycle n verification).memory = h.memory := by
  unfold House.finishCycle; dsimp only; (repeat' split) <;> simp

@[simp] theorem House.sweepFrom_frame (h : House) (n : Nat) (left : PinSet) :
    (h.sweepFrom n left).bowlers = h.bowlers ∧ (h.sweepFrom n left).squads = h.squads ∧ (h.sweepFrom n left).returns = h.returns ∧
      (h.sweepFrom n left).calls = h.calls ∧ (h.sweepFrom n left).tabs = h.tabs ∧ (h.sweepFrom n left).plans = h.plans ∧
      (h.sweepFrom n left).port = h.port ∧ (h.sweepFrom n left).clock = h.clock ∧ (h.sweepFrom n left).memory = h.memory := by
  unfold House.sweepFrom; (repeat' split) <;> simp

@[simp] theorem House.sweepStage_frame (h : House) (n : Nat) :
    (h.sweepStage n).bowlers = h.bowlers ∧ (h.sweepStage n).squads = h.squads ∧ (h.sweepStage n).returns = h.returns ∧
      (h.sweepStage n).calls = h.calls ∧ (h.sweepStage n).tabs = h.tabs ∧ (h.sweepStage n).plans = h.plans ∧
      (h.sweepStage n).port = h.port ∧ (h.sweepStage n).clock = h.clock ∧ (h.sweepStage n).memory = h.memory := by
  simp [House.sweepStage]

@[simp] theorem House.powerOffStep_frame (h : House) (n : Nat) :
    (h.powerOffStep n).bowlers = h.bowlers ∧ (h.powerOffStep n).squads = h.squads ∧ (h.powerOffStep n).returns = h.returns ∧
      (h.powerOffStep n).calls = h.calls ∧ (h.powerOffStep n).tabs = h.tabs ∧ (h.powerOffStep n).plans = h.plans ∧
      (h.powerOffStep n).port = h.port ∧ (h.powerOffStep n).clock = h.clock ∧ (h.powerOffStep n).memory = h.memory := by
  simp [House.powerOffStep]

@[simp] theorem House.closingCycleEnds_frame (h : House) (n : Nat) (c : DeckCycle) (left : PinSet) :
    (h.closingCycleEnds n c left).bowlers = h.bowlers ∧ (h.closingCycleEnds n c left).squads = h.squads ∧ (h.closingCycleEnds n c left).returns = h.returns ∧
      (h.closingCycleEnds n c left).calls = h.calls ∧ (h.closingCycleEnds n c left).tabs = h.tabs ∧ (h.closingCycleEnds n c left).plans = h.plans ∧
      (h.closingCycleEnds n c left).port = h.port ∧ (h.closingCycleEnds n c left).clock = h.clock ∧ (h.closingCycleEnds n c left).memory = h.memory := by
  unfold House.closingCycleEnds; (repeat' split) <;> simp

@[simp] theorem House.closingDeliveryEnds_frame (h : House) (n : Nat) :
    (h.closingDeliveryEnds n).bowlers = h.bowlers ∧ (h.closingDeliveryEnds n).squads = h.squads ∧ (h.closingDeliveryEnds n).returns = h.returns ∧
      (h.closingDeliveryEnds n).calls = h.calls ∧ (h.closingDeliveryEnds n).tabs = h.tabs ∧ (h.closingDeliveryEnds n).plans = h.plans ∧
      (h.closingDeliveryEnds n).port = h.port ∧ (h.closingDeliveryEnds n).clock = h.clock ∧ (h.closingDeliveryEnds n).memory = h.memory := by
  simp [House.closingDeliveryEnds]

@[simp] theorem House.retireOn_frame (h : House) (n : Nat) :
    (h.retireOn n).returns = h.returns ∧ (h.retireOn n).calls = h.calls ∧ (h.retireOn n).plans = h.plans ∧
      (h.retireOn n).port = h.port ∧ (h.retireOn n).clock = h.clock ∧ (h.retireOn n).memory = h.memory := by
  unfold House.retireOn; (repeat' split) <;> simp

@[simp] theorem House.beginClosing_frame (h : House) (n : Nat) :
    (h.beginClosing n).returns = h.returns ∧ (h.beginClosing n).calls = h.calls ∧ (h.beginClosing n).plans = h.plans ∧
      (h.beginClosing n).port = h.port ∧ (h.beginClosing n).clock = h.clock ∧ (h.beginClosing n).memory = h.memory := by
  unfold House.beginClosing; dsimp only; (repeat' split) <;> simp

@[simp] theorem House.firstCycle_frame (h : House) (n : Nat) :
    (h.firstCycle n).bowlers = h.bowlers ∧ (h.firstCycle n).squads = h.squads ∧ (h.firstCycle n).returns = h.returns ∧
      (h.firstCycle n).calls = h.calls ∧ (h.firstCycle n).tabs = h.tabs ∧ (h.firstCycle n).plans = h.plans ∧
      (h.firstCycle n).port = h.port ∧ (h.firstCycle n).clock = h.clock ∧ (h.firstCycle n).memory = h.memory := by
  unfold House.firstCycle; (repeat' split) <;> simp

@[simp] theorem House.comeUp_frame (h : House) (n : Nat) :
    (h.comeUp n).bowlers = h.bowlers ∧ (h.comeUp n).squads = h.squads ∧ (h.comeUp n).returns = h.returns ∧
      (h.comeUp n).plans = h.plans ∧ (h.comeUp n).port = h.port ∧ (h.comeUp n).clock = h.clock ∧
      (h.comeUp n).memory = h.memory := by
  simp [House.comeUp]

@[simp] theorem House.resolveAction_frame (h : House) (n : Nat) (c : RaiseRecord) (a : ResolveAction) :
    (h.resolveAction n c a).returns = h.returns ∧ (h.resolveAction n c a).calls = h.calls ∧ (h.resolveAction n c a).plans = h.plans ∧
      (h.resolveAction n c a).port = h.port ∧ (h.resolveAction n c a).clock = h.clock ∧ (h.resolveAction n c a).memory = h.memory := by
  unfold House.resolveAction House.acceptStanding; dsimp only; (repeat' split) <;> simp

/-! ### Ball returns (chapter 7) -/

@[simp] theorem House.raiseJam_frame (h : House) (p : Nat) (cause : JamCause) :
    (h.raiseJam p cause).bowlers = h.bowlers ∧ (h.raiseJam p cause).squads = h.squads ∧ (h.raiseJam p cause).plans = h.plans ∧
      (h.raiseJam p cause).machine = h.machine ∧ (h.raiseJam p cause).port = h.port ∧ (h.raiseJam p cause).clock = h.clock ∧
      (h.raiseJam p cause).memory = h.memory := by
  unfold House.raiseJam; dsimp only; (repeat' split) <;> simp

@[simp] theorem House.returnExpires_frame (h : House) (p : Nat) :
    (h.returnExpires p).bowlers = h.bowlers ∧ (h.returnExpires p).squads = h.squads ∧ (h.returnExpires p).plans = h.plans ∧
      (h.returnExpires p).machine = h.machine ∧ (h.returnExpires p).port = h.port ∧ (h.returnExpires p).clock = h.clock ∧
      (h.returnExpires p).memory = h.memory := by
  simp [House.returnExpires]

@[simp] theorem House.setReturnDeadline_frame (h : House) (p : Nat) :
    (h.setReturnDeadline p).bowlers = h.bowlers ∧ (h.setReturnDeadline p).squads = h.squads ∧ (h.setReturnDeadline p).plans = h.plans ∧
      (h.setReturnDeadline p).machine = h.machine ∧ (h.setReturnDeadline p).port = h.port ∧ (h.setReturnDeadline p).clock = h.clock ∧
      (h.setReturnDeadline p).memory = h.memory := by
  unfold House.setReturnDeadline; dsimp only; (repeat' split) <;> simp

@[simp] theorem House.countOut_frame (h : House) (n : Nat) (mode : Mode) :
    (h.countOut n mode).bowlers = h.bowlers ∧ (h.countOut n mode).squads = h.squads ∧ (h.countOut n mode).plans = h.plans ∧
      (h.countOut n mode).machine = h.machine ∧ (h.countOut n mode).port = h.port ∧ (h.countOut n mode).clock = h.clock ∧
      (h.countOut n mode).memory = h.memory := by
  unfold House.countOut; dsimp only; (repeat' split) <;> simp

@[simp] theorem House.countBack_frame (h : House) (p : Nat) :
    (h.countBack p).bowlers = h.bowlers ∧ (h.countBack p).squads = h.squads ∧ (h.countBack p).plans = h.plans ∧
      (h.countBack p).machine = h.machine ∧ (h.countBack p).port = h.port ∧ (h.countBack p).clock = h.clock ∧
      (h.countBack p).memory = h.memory := by
  unfold House.countBack; dsimp only; (repeat' split) <;> simp

@[simp] theorem House.emptyReturn_frame (h : House) (p : Nat) :
    (h.emptyReturn p).lanes = h.lanes ∧ (h.emptyReturn p).bowlers = h.bowlers ∧ (h.emptyReturn p).squads = h.squads ∧
      (h.emptyReturn p).calls = h.calls ∧ (h.emptyReturn p).tabs = h.tabs ∧ (h.emptyReturn p).plans = h.plans ∧
      (h.emptyReturn p).machine = h.machine ∧ (h.emptyReturn p).port = h.port ∧ (h.emptyReturn p).clock = h.clock ∧
      (h.emptyReturn p).memory = h.memory := by
  simp [House.emptyReturn]

@[simp] theorem House.endJam_frame (h : House) (p : Nat) :
    (h.endJam p).lanes = h.lanes ∧ (h.endJam p).bowlers = h.bowlers ∧ (h.endJam p).squads = h.squads ∧
      (h.endJam p).calls = h.calls ∧ (h.endJam p).tabs = h.tabs ∧ (h.endJam p).plans = h.plans ∧
      (h.endJam p).machine = h.machine ∧ (h.endJam p).port = h.port ∧ (h.endJam p).clock = h.clock ∧
      (h.endJam p).memory = h.memory := by
  simp [House.endJam]

@[simp] theorem House.clearingEffects_frame (h : House) (n : Nat) (k : CallKind) (before : List (Nat × Bool)) :
    (h.clearingEffects n k before).bowlers = h.bowlers ∧ (h.clearingEffects n k before).squads = h.squads ∧ (h.clearingEffects n k before).calls = h.calls ∧
      (h.clearingEffects n k before).plans = h.plans ∧ (h.clearingEffects n k before).port = h.port ∧ (h.clearingEffects n k before).clock = h.clock ∧
      (h.clearingEffects n k before).memory = h.memory := by
  have follow (l : List (Nat × Bool)) (h : House) (γ : Type) (field : House → γ)
      (same : ∀ h n b, field (House.followCall h n b) = field h) :
      field (l.foldl (fun h nb => h.followCall nb.1 nb.2) h) = field h := foldl_field field _ (fun h nb => same h _ _) l h
  have recover (l : List Nat) (h : House) (γ : Type) (field : House → γ)
      (same : ∀ h n, field (House.startRecovery h n) = field h) :
      field (l.foldl House.startRecovery h) = field h := foldl_field field _ (fun h n => same h n) l h
  unfold House.clearingEffects
  split
  · dsimp only
    refine ⟨?_, ?_, ?_, ?_, ?_, ?_, ?_⟩ <;>
      refine (recover _ _ _ _ (fun _ _ => by simp)).trans ((follow _ _ _ _ (fun _ _ _ => by simp)).trans ?_) <;>
      split <;> simp
  · split <;> simp

@[simp] theorem House.clearQueued_frame (h : House) (c : CallRecord) :
    (h.clearQueued c).bowlers = h.bowlers ∧ (h.clearQueued c).squads = h.squads ∧ (h.clearQueued c).plans = h.plans ∧
      (h.clearQueued c).port = h.port ∧ (h.clearQueued c).clock = h.clock ∧ (h.clearQueued c).memory = h.memory := by
  simp [House.clearQueued]

@[simp] theorem House.clearUnqueued_frame (h : House) (n : Nat) (k : CallKind) :
    (h.clearUnqueued n k).bowlers = h.bowlers ∧ (h.clearUnqueued n k).squads = h.squads ∧ (h.clearUnqueued n k).plans = h.plans ∧
      (h.clearUnqueued n k).port = h.port ∧ (h.clearUnqueued n k).clock = h.clock ∧ (h.clearUnqueued n k).memory = h.memory := by
  simp [House.clearUnqueued]

/-! ### Presence and the end of a step (chapter 11) -/

@[simp] theorem House.laneLost_frame (h : House) (n : Nat) :
    (h.laneLost n).bowlers = h.bowlers ∧ (h.laneLost n).squads = h.squads ∧ (h.laneLost n).returns = h.returns ∧
      (h.laneLost n).calls = h.calls ∧ (h.laneLost n).plans = h.plans ∧ (h.laneLost n).machine = h.machine ∧
      (h.laneLost n).port = h.port ∧ (h.laneLost n).clock = h.clock ∧ (h.laneLost n).memory = h.memory := by
  unfold House.laneLost; (repeat' split) <;> simp

@[simp] theorem House.declareAbsent_frame (h : House) (p : Nat) :
    (h.declareAbsent p).bowlers = h.bowlers ∧ (h.declareAbsent p).squads = h.squads ∧ (h.declareAbsent p).calls = h.calls ∧
      (h.declareAbsent p).plans = h.plans ∧ (h.declareAbsent p).port = h.port ∧ (h.declareAbsent p).clock = h.clock ∧
      (h.declareAbsent p).memory = h.memory := by
  have lost (l : List Nat) (h : House) (γ : Type) (field : House → γ)
      (same : ∀ h n, field (House.laneLost h n) = field h) : field (l.foldl House.laneLost h) = field h :=
    foldl_field field _ (fun h n => same h n) l h
  unfold House.declareAbsent
  dsimp only
  refine ⟨?_, ?_, ?_, ?_, ?_, ?_, ?_⟩ <;> simp only [House.setRet_bowlers, House.setRet_squads, House.setRet_calls,
    House.setRet_plans, House.setRet_port, House.setRet_clock, House.setRet_memory] <;>
    exact lost _ _ _ _ (fun _ _ => by simp)

@[simp] theorem House.declareOverflows_frame (h : House) :
    h.declareOverflows.bowlers = h.bowlers ∧ h.declareOverflows.squads = h.squads ∧ h.declareOverflows.calls = h.calls ∧
      h.declareOverflows.plans = h.plans ∧ h.declareOverflows.port = h.port ∧ h.declareOverflows.clock = h.clock ∧
      h.declareOverflows.memory = h.memory := by
  unfold House.declareOverflows
  refine ⟨?_, ?_, ?_, ?_, ?_, ?_, ?_⟩ <;>
    exact foldl_field _ _ (fun _ _ => by split <;> simp) _ _

@[simp] theorem House.settle_frame (h : House) :
    h.settle.bowlers = h.bowlers ∧ h.settle.squads = h.squads ∧ h.settle.calls = h.calls ∧
      h.settle.plans = h.plans ∧ h.settle.clock = h.clock ∧ h.settle.memory = h.memory := by
  simp [House.settle]

@[simp] theorem House.writeCapabilities_frame (h : House) (p : Nat) (c : Capabilities) :
    (h.writeCapabilities p c).bowlers = h.bowlers ∧ (h.writeCapabilities p c).squads = h.squads ∧ (h.writeCapabilities p c).returns = h.returns ∧
      (h.writeCapabilities p c).calls = h.calls ∧ (h.writeCapabilities p c).tabs = h.tabs ∧ (h.writeCapabilities p c).plans = h.plans ∧
      (h.writeCapabilities p c).port = h.port ∧ (h.writeCapabilities p c).clock = h.clock ∧ (h.writeCapabilities p c).memory = h.memory := by
  unfold House.writeCapabilities
  dsimp only
  refine ⟨?_, ?_, ?_, ?_, ?_, ?_, ?_, ?_, ?_⟩ <;>
    exact (foldl_field _ _ (fun _ _ => by simp) _ _).trans (by simp)

@[simp] theorem House.laneReturns_frame (h : House) (n : Nat) (lost : Bool) :
    (h.laneReturns n lost).bowlers = h.bowlers ∧ (h.laneReturns n lost).squads = h.squads ∧ (h.laneReturns n lost).returns = h.returns ∧
      (h.laneReturns n lost).calls = h.calls ∧ (h.laneReturns n lost).tabs = h.tabs ∧ (h.laneReturns n lost).plans = h.plans ∧
      (h.laneReturns n lost).port = h.port ∧ (h.laneReturns n lost).clock = h.clock ∧ (h.laneReturns n lost).memory = h.memory := by
  unfold House.laneReturns; (repeat' split) <;> simp

@[simp] theorem House.declarePresent_frame (h : House) (p : Nat) :
    (h.declarePresent p).bowlers = h.bowlers ∧ (h.declarePresent p).squads = h.squads ∧ (h.declarePresent p).calls = h.calls ∧
      (h.declarePresent p).plans = h.plans ∧ (h.declarePresent p).port = h.port ∧ (h.declarePresent p).clock = h.clock ∧
      (h.declarePresent p).memory = h.memory := by
  unfold House.declarePresent
  dsimp only
  refine ⟨?_, ?_, ?_, ?_, ?_, ?_, ?_⟩ <;> simp only [House.emptyReturn_frame] <;>
    refine (foldl_field _ _ (fun _ _ => by simp) _ _).trans ?_ <;>
    refine (foldl_field _ _ (fun _ _ => by split <;> simp) _ _).trans ?_ <;> simp

@[simp] theorem House.takePresent_frame (h : House) (p : Nat) (c : Capabilities) :
    (h.takePresent p c).bowlers = h.bowlers ∧ (h.takePresent p c).squads = h.squads ∧ (h.takePresent p c).calls = h.calls ∧
      (h.takePresent p c).plans = h.plans ∧ (h.takePresent p c).port = h.port ∧ (h.takePresent p c).clock = h.clock ∧
      (h.takePresent p c).memory = h.memory := by
  unfold House.takePresent; dsimp only; (repeat' split) <;> simp

/-! ### Tabs (chapters 9 and 10) -/

@[simp] theorem House.writeTabField_frame (h : House) (n t : Nat) (autoWake : Bool) :
    (h.writeTabField n t autoWake).bowlers = h.bowlers ∧ (h.writeTabField n t autoWake).squads = h.squads ∧ (h.writeTabField n t autoWake).returns = h.returns ∧
      (h.writeTabField n t autoWake).calls = h.calls ∧ (h.writeTabField n t autoWake).plans = h.plans ∧ (h.writeTabField n t autoWake).port = h.port ∧
      (h.writeTabField n t autoWake).clock = h.clock ∧ (h.writeTabField n t autoWake).memory = h.memory := by
  unfold House.writeTabField; dsimp only; (repeat' split) <;> simp

@[simp] theorem House.attachLane_frame (h : House) (t : Nat) (r : TabRecord) (n : Nat) (autoWake : Bool) :
    (h.attachLane t r n autoWake).bowlers = h.bowlers ∧ (h.attachLane t r n autoWake).squads = h.squads ∧ (h.attachLane t r n autoWake).returns = h.returns ∧
      (h.attachLane t r n autoWake).calls = h.calls ∧ (h.attachLane t r n autoWake).plans = h.plans ∧ (h.attachLane t r n autoWake).port = h.port ∧
      (h.attachLane t r n autoWake).clock = h.clock ∧ (h.attachLane t r n autoWake).memory = h.memory := by
  simp [House.attachLane]

@[simp] theorem House.detachLane_frame (h : House) (n : Nat) :
    (h.detachLane n).returns = h.returns ∧ (h.detachLane n).calls = h.calls ∧ (h.detachLane n).plans = h.plans ∧
      (h.detachLane n).port = h.port ∧ (h.detachLane n).clock = h.clock ∧ (h.detachLane n).memory = h.memory := by
  unfold House.detachLane; dsimp only; (repeat' split) <;> simp

@[simp] theorem House.detachAll_frame (h : House) (r : TabRecord) :
    (h.detachAll r).returns = h.returns ∧ (h.detachAll r).calls = h.calls ∧ (h.detachAll r).plans = h.plans ∧
      (h.detachAll r).port = h.port ∧ (h.detachAll r).clock = h.clock ∧ (h.detachAll r).memory = h.memory := by
  unfold House.detachAll
  refine ⟨?_, ?_, ?_, ?_, ?_, ?_⟩ <;>
    exact foldl_field _ _ (fun _ _ => by simp) _ _

@[simp] theorem House.reportAllowance_frame (h : House) (r : TabRecord) (was : Bool) :
    (h.reportAllowance r was).returns = h.returns ∧ (h.reportAllowance r was).calls = h.calls ∧ (h.reportAllowance r was).plans = h.plans ∧
      (h.reportAllowance r was).port = h.port ∧ (h.reportAllowance r was).clock = h.clock ∧ (h.reportAllowance r was).memory = h.memory := by
  unfold House.reportAllowance; (repeat' split) <;> simp

@[simp] theorem House.meterTab_frame (h : House) (m t : Nat) :
    (h.meterTab m t).bowlers = h.bowlers ∧ (h.meterTab m t).returns = h.returns ∧ (h.meterTab m t).calls = h.calls ∧
      (h.meterTab m t).plans = h.plans ∧ (h.meterTab m t).machine = h.machine ∧ (h.meterTab m t).port = h.port ∧
      (h.meterTab m t).clock = h.clock ∧ (h.meterTab m t).memory = h.memory := by
  unfold House.meterTab; dsimp only; (repeat' split) <;> simp

@[simp] theorem House.meterAll_frame (h : House) (m : Nat) :
    (h.meterAll m).bowlers = h.bowlers ∧ (h.meterAll m).returns = h.returns ∧ (h.meterAll m).calls = h.calls ∧
      (h.meterAll m).plans = h.plans ∧ (h.meterAll m).machine = h.machine ∧ (h.meterAll m).port = h.port ∧
      (h.meterAll m).clock = h.clock ∧ (h.meterAll m).memory = h.memory := by
  unfold House.meterAll
  refine ⟨?_, ?_, ?_, ?_, ?_, ?_, ?_, ?_⟩ <;>
    exact foldl_field _ _ (fun _ _ => by simp) _ _

/-! ### The module events and the timers -/

@[simp] theorem House.takeReady_frame (h : House) (n : Nat) :
    (h.takeReady n).bowlers = h.bowlers ∧ (h.takeReady n).squads = h.squads ∧ (h.takeReady n).returns = h.returns ∧
      (h.takeReady n).plans = h.plans ∧ (h.takeReady n).port = h.port ∧ (h.takeReady n).clock = h.clock ∧
      (h.takeReady n).memory = h.memory := by
  unfold House.takeReady; (repeat' split) <;> simp

@[simp] theorem House.laneBall_frame (h : House) (n : Nat) (speed : Option Half) :
    (h.laneBall n speed).bowlers = h.bowlers ∧ (h.laneBall n speed).squads = h.squads ∧ (h.laneBall n speed).returns = h.returns ∧
      (h.laneBall n speed).plans = h.plans ∧ (h.laneBall n speed).machine = h.machine ∧ (h.laneBall n speed).port = h.port ∧
      (h.laneBall n speed).clock = h.clock ∧ (h.laneBall n speed).memory = h.memory := by
  unfold House.laneBall; (repeat' split) <;> simp

@[simp] theorem House.takeBallSeen_frame (h : House) (n : Nat) (speed : Option Half) :
    (h.takeBallSeen n speed).bowlers = h.bowlers ∧ (h.takeBallSeen n speed).squads = h.squads ∧ (h.takeBallSeen n speed).plans = h.plans ∧
      (h.takeBallSeen n speed).machine = h.machine ∧ (h.takeBallSeen n speed).port = h.port ∧ (h.takeBallSeen n speed).clock = h.clock ∧
      (h.takeBallSeen n speed).memory = h.memory := by
  simp [House.takeBallSeen]

@[simp] theorem House.takeFoul_frame (h : House) (n : Nat) :
    (h.takeFoul n).bowlers = h.bowlers ∧ (h.takeFoul n).squads = h.squads ∧ (h.takeFoul n).returns = h.returns ∧
      (h.takeFoul n).calls = h.calls ∧ (h.takeFoul n).tabs = h.tabs ∧ (h.takeFoul n).plans = h.plans ∧
      (h.takeFoul n).machine = h.machine ∧ (h.takeFoul n).port = h.port ∧ (h.takeFoul n).clock = h.clock ∧
      (h.takeFoul n).memory = h.memory := by
  unfold House.takeFoul; (repeat' split) <;> simp

@[simp] theorem House.takeDeckRead_frame (h : House) (n : Nat) (reading : PinSet) :
    (h.takeDeckRead n reading).returns = h.returns ∧ (h.takeDeckRead n reading).calls = h.calls ∧ (h.takeDeckRead n reading).plans = h.plans ∧
      (h.takeDeckRead n reading).port = h.port ∧ (h.takeDeckRead n reading).clock = h.clock ∧ (h.takeDeckRead n reading).memory = h.memory := by
  unfold House.takeDeckRead; (repeat' split) <;> simp

@[simp] theorem House.takeCycleDone_frame (h : House) (n : Nat) (verification : Option PinSet) :
    (h.takeCycleDone n verification).bowlers = h.bowlers ∧ (h.takeCycleDone n verification).squads = h.squads ∧ (h.takeCycleDone n verification).returns = h.returns ∧
      (h.takeCycleDone n verification).plans = h.plans ∧ (h.takeCycleDone n verification).port = h.port ∧ (h.takeCycleDone n verification).clock = h.clock ∧
      (h.takeCycleDone n verification).memory = h.memory := by
  unfold House.takeCycleDone; (repeat' split) <;> simp

@[simp] theorem House.takeFault_frame (h : House) (n : Nat) (code : Half) :
    (h.takeFault n code).bowlers = h.bowlers ∧ (h.takeFault n code).squads = h.squads ∧ (h.takeFault n code).returns = h.returns ∧
      (h.takeFault n code).plans = h.plans ∧ (h.takeFault n code).port = h.port ∧ (h.takeFault n code).clock = h.clock ∧
      (h.takeFault n code).memory = h.memory := by
  unfold House.takeFault; dsimp only; (repeat' split) <;> simp

@[simp] theorem House.readingExpires_frame (h : House) (n : Nat) :
    (h.readingExpires n).bowlers = h.bowlers ∧ (h.readingExpires n).squads = h.squads ∧ (h.readingExpires n).returns = h.returns ∧
      (h.readingExpires n).plans = h.plans ∧ (h.readingExpires n).port = h.port ∧ (h.readingExpires n).clock = h.clock ∧
      (h.readingExpires n).memory = h.memory := by
  unfold House.readingExpires; (repeat' split) <;> simp

@[simp] theorem House.cycleExpires_frame (h : House) (n : Nat) :
    (h.cycleExpires n).bowlers = h.bowlers ∧ (h.cycleExpires n).squads = h.squads ∧ (h.cycleExpires n).returns = h.returns ∧
      (h.cycleExpires n).plans = h.plans ∧ (h.cycleExpires n).port = h.port ∧ (h.cycleExpires n).clock = h.clock ∧
      (h.cycleExpires n).memory = h.memory := by
  unfold House.cycleExpires; (repeat' split) <;> simp

@[simp] theorem House.foulExpires_frame (h : House) (n : Nat) :
    (h.foulExpires n).bowlers = h.bowlers ∧ (h.foulExpires n).squads = h.squads ∧ (h.foulExpires n).returns = h.returns ∧
      (h.foulExpires n).calls = h.calls ∧ (h.foulExpires n).tabs = h.tabs ∧ (h.foulExpires n).plans = h.plans ∧
      (h.foulExpires n).machine = h.machine ∧ (h.foulExpires n).port = h.port ∧ (h.foulExpires n).clock = h.clock ∧
      (h.foulExpires n).memory = h.memory := by
  unfold House.foulExpires; (repeat' split) <;> simp

@[simp] theorem House.warmUpExpires_frame (h : House) (n : Nat) :
    (h.warmUpExpires n).bowlers = h.bowlers ∧ (h.warmUpExpires n).squads = h.squads ∧ (h.warmUpExpires n).returns = h.returns ∧
      (h.warmUpExpires n).plans = h.plans ∧ (h.warmUpExpires n).machine = h.machine ∧ (h.warmUpExpires n).port = h.port ∧
      (h.warmUpExpires n).clock = h.clock ∧ (h.warmUpExpires n).memory = h.memory := by
  unfold House.warmUpExpires; (repeat' split) <;> simp

@[simp] theorem House.returnDue_frame (h : House) (p : Nat) :
    (h.returnDue p).bowlers = h.bowlers ∧ (h.returnDue p).squads = h.squads ∧ (h.returnDue p).plans = h.plans ∧
      (h.returnDue p).machine = h.machine ∧ (h.returnDue p).port = h.port ∧ (h.returnDue p).clock = h.clock ∧
      (h.returnDue p).memory = h.memory := by
  unfold House.returnDue; (repeat' split) <;> simp

/-! ### The two links -/

@[simp] theorem House.poll_frame (h : House) :
    h.poll.lanes = h.lanes ∧ h.poll.bowlers = h.bowlers ∧ h.poll.squads = h.squads ∧
      h.poll.returns = h.returns ∧ h.poll.calls = h.calls ∧ h.poll.tabs = h.tabs ∧
      h.poll.plans = h.plans ∧ h.poll.port = h.port ∧ h.poll.clock = h.clock ∧
      h.poll.memory = h.memory := by
  unfold House.poll; dsimp only; (repeat' split) <;> simp

@[simp] theorem House.noAnswerFrom_frame (h : House) (p : Nat) :
    (h.noAnswerFrom p).bowlers = h.bowlers ∧ (h.noAnswerFrom p).squads = h.squads ∧ (h.noAnswerFrom p).calls = h.calls ∧
      (h.noAnswerFrom p).plans = h.plans ∧ (h.noAnswerFrom p).port = h.port ∧ (h.noAnswerFrom p).clock = h.clock ∧
      (h.noAnswerFrom p).memory = h.memory := by
  unfold House.noAnswerFrom; dsimp only; (repeat' split) <;> simp

@[simp] theorem House.noAnswer_frame (h : House) :
    h.noAnswer.bowlers = h.bowlers ∧ h.noAnswer.squads = h.squads ∧ h.noAnswer.calls = h.calls ∧
      h.noAnswer.plans = h.plans ∧ h.noAnswer.port = h.port ∧ h.noAnswer.clock = h.clock ∧
      h.noAnswer.memory = h.memory := by
  unfold House.noAnswer; (repeat' split) <;> simp

@[simp] theorem House.deliver_frame (h : House) (p : Nat) (e : ModuleEvent) :
    (h.deliver p e).plans = h.plans ∧ (h.deliver p e).port = h.port ∧ (h.deliver p e).clock = h.clock ∧
      (h.deliver p e).memory = h.memory := by
  unfold House.deliver; (repeat' split) <;> simp

@[simp] theorem House.deliverAll_frame (h : House) (p : Nat) (events : List (Option ModuleEvent)) :
    (h.deliverAll p events).plans = h.plans ∧ (h.deliverAll p events).port = h.port ∧ (h.deliverAll p events).clock = h.clock ∧
      (h.deliverAll p events).memory = h.memory := by
  unfold House.deliverAll
  refine ⟨?_, ?_, ?_, ?_⟩ <;>
    exact foldl_field _ _ (fun _ _ => by split <;> simp) _ _

@[simp] theorem House.takeEvents_frame (h : House) (p : Nat) (events : List (Option ModuleEvent)) :
    (h.takeEvents p events).plans = h.plans ∧ (h.takeEvents p events).port = h.port ∧ (h.takeEvents p events).clock = h.clock ∧
      (h.takeEvents p events).memory = h.memory := by
  unfold House.takeEvents; (repeat' split) <;> simp

@[simp] theorem House.answerTaken_frame (h : House) (out : PollOut) (bytes : List Byte) :
    (h.answerTaken out bytes).plans = h.plans ∧ (h.answerTaken out bytes).port = h.port ∧ (h.answerTaken out bytes).clock = h.clock ∧
      (h.answerTaken out bytes).memory = h.memory := by
  simp [House.answerTaken]

@[simp] theorem House.pollAnswer_frame (h : House) (frame : List Byte) :
    (h.pollAnswer frame).plans = h.plans ∧ (h.pollAnswer frame).port = h.port ∧ (h.pollAnswer frame).clock = h.clock ∧
      (h.pollAnswer frame).memory = h.memory := by
  unfold House.pollAnswer; (repeat' split) <;> simp

@[simp] theorem House.frameGap_frame (h : House) :
    h.frameGap.lanes = h.lanes ∧ h.frameGap.bowlers = h.bowlers ∧ h.frameGap.squads = h.squads ∧
      h.frameGap.returns = h.returns ∧ h.frameGap.calls = h.calls ∧ h.frameGap.tabs = h.tabs ∧
      h.frameGap.plans = h.plans ∧ h.frameGap.machine = h.machine ∧ h.frameGap.clock = h.clock ∧
      h.frameGap.memory = h.memory := by
  unfold House.frameGap; (repeat' split) <;> simp

@[simp] theorem House.refuseHeader_frame (h : House) (sequence : Byte) :
    (h.refuseHeader sequence).lanes = h.lanes ∧ (h.refuseHeader sequence).bowlers = h.bowlers ∧ (h.refuseHeader sequence).squads = h.squads ∧
      (h.refuseHeader sequence).returns = h.returns ∧ (h.refuseHeader sequence).calls = h.calls ∧ (h.refuseHeader sequence).tabs = h.tabs ∧
      (h.refuseHeader sequence).plans = h.plans ∧ (h.refuseHeader sequence).machine = h.machine ∧ (h.refuseHeader sequence).clock = h.clock ∧
      (h.refuseHeader sequence).memory = h.memory := by
  simp [House.refuseHeader]

/-! ### The starts (section 11.5) -/

@[simp] theorem House.restartLanes_frame (h : House) :
    h.restartLanes.bowlers = h.bowlers ∧ h.restartLanes.squads = h.squads ∧ h.restartLanes.returns = h.returns ∧
      h.restartLanes.calls = h.calls ∧ h.restartLanes.tabs = h.tabs ∧ h.restartLanes.plans = h.plans ∧
      h.restartLanes.machine = h.machine ∧ h.restartLanes.port = h.port ∧ h.restartLanes.clock = h.clock ∧
      h.restartLanes.memory = h.memory := by
  unfold House.restartLanes
  refine ⟨?_, ?_, ?_, ?_, ?_, ?_, ?_, ?_, ?_, ?_⟩ <;>
    exact foldl_field _ _ (fun _ _ => by simp) _ _

@[simp] theorem House.restartReturns_frame (h : House) :
    h.restartReturns.lanes = h.lanes ∧ h.restartReturns.bowlers = h.bowlers ∧ h.restartReturns.squads = h.squads ∧
      h.restartReturns.calls = h.calls ∧ h.restartReturns.tabs = h.tabs ∧ h.restartReturns.plans = h.plans ∧
      h.restartReturns.machine = h.machine ∧ h.restartReturns.port = h.port ∧ h.restartReturns.clock = h.clock ∧
      h.restartReturns.memory = h.memory := by
  unfold House.restartReturns
  refine ⟨?_, ?_, ?_, ?_, ?_, ?_, ?_, ?_, ?_, ?_⟩ <;>
    exact foldl_field _ _ (fun _ _ => by simp) _ _

@[simp] theorem House.reportAll_frame (h : House) :
    h.reportAll.lanes = h.lanes ∧ h.reportAll.bowlers = h.bowlers ∧ h.reportAll.squads = h.squads ∧
      h.reportAll.returns = h.returns ∧ h.reportAll.calls = h.calls ∧ h.reportAll.plans = h.plans ∧
      h.reportAll.machine = h.machine ∧ h.reportAll.port = h.port ∧ h.reportAll.clock = h.clock ∧
      h.reportAll.memory = h.memory := by
  unfold House.reportAll
  refine ⟨?_, ?_, ?_, ?_, ?_, ?_, ?_, ?_, ?_, ?_⟩ <;>
    exact foldl_field _ _ (fun _ _ => by simp) _ _

@[simp] theorem House.warmStart_frame (h : House) (cause : RestartCause) :
    (h.warmStart cause).bowlers = h.bowlers ∧ (h.warmStart cause).squads = h.squads ∧ (h.warmStart cause).plans = h.plans ∧
      (h.warmStart cause).clock = h.clock := by
  simp [House.warmStart]

end Sys2Proof.Machine
end

