-- ==== Sys2Proof/Laws/Setup.lean ====
section
/-! SUPPORT. The setup of a lane, which play never changes: its options, its discrepancy mask and its capabilities. Each
operation that writes lane records is shown to keep the setup of every lane; an operation that writes none keeps it by
`House.setup_of_lanes`. -/

namespace Sys2Proof.Machine

open Sys2Proof

/-- The setup of a lane record: options, discrepancy mask and capabilities (01 TABLES 1 and 2). -/
def LaneRecord.setup (l : LaneRecord) : LaneOptions × Vector Bool 6 × Capabilities :=
  (l.options, l.mask, l.capabilities)

/-- The setup of every lane of the house. -/
def House.setup (h : House) : Nat → LaneOptions × Vector Bool 6 × Capabilities := fun n => (h.lane n).setup

theorem House.setup_of_lanes {h k : House} (same : k.lanes = h.lanes) : k.setup = h.setup := by
  funext n; simp [House.setup, House.lane, same]

/-- A lane record written with the setup it had keeps the setup of every lane. -/
@[simp] theorem House.setLane_setup (h : House) (n : Nat) (l : LaneRecord) (options : l.options = (h.lane n).options)
    (mask : l.mask = (h.lane n).mask) (capabilities : l.capabilities = (h.lane n).capabilities) :
    (h.setLane n l).setup = h.setup := by
  have same : l.setup = (h.lane n).setup := by simp [LaneRecord.setup, options, mask, capabilities]
  funext m
  simp only [House.setup, House.setLane_lane]
  split
  · rename_i e; rw [same, e.1]
  · rfl

/-! ### Lane records -/

@[simp] theorem LaneRecord.addCause_setup (l : LaneRecord) (c : HoldCause) :
    (l.addCause c).options = l.options ∧ (l.addCause c).mask = l.mask ∧ (l.addCause c).capabilities = l.capabilities := by
  unfold LaneRecord.addCause; dsimp only; (repeat' split) <;> simp

@[simp] theorem LaneRecord.removeCause_setup (l : LaneRecord) (c : HoldCause) :
    (l.removeCause c).options = l.options ∧ (l.removeCause c).mask = l.mask ∧ (l.removeCause c).capabilities = l.capabilities := by
  unfold LaneRecord.removeCause; dsimp only; (repeat' split) <;> simp

@[simp] theorem LaneRecord.foul_setup (l : LaneRecord) (now : Nat) :
    (l.foul now).options = l.options ∧ (l.foul now).mask = l.mask ∧ (l.foul now).capabilities = l.capabilities := by
  unfold LaneRecord.foul; (repeat' split) <;> simp

@[simp] theorem LaneRecord.restart_setup (l : LaneRecord) (b : Bool) :
    (l.restart b).options = l.options ∧ (l.restart b).mask = l.mask ∧ (l.restart b).capabilities = l.capabilities := by
  unfold LaneRecord.restart; dsimp only; (repeat' split) <;> simp

@[simp] theorem LaneRecord.clearKinds_setup (l : LaneRecord) (ks : List Discrepancy) :
    (l.clearKinds ks).options = l.options ∧ (l.clearKinds ks).mask = l.mask ∧ (l.clearKinds ks).capabilities = l.capabilities := by
  unfold LaneRecord.clearKinds
  exact ⟨foldl_field LaneRecord.options _ (fun _ _ => by rfl) _ _, foldl_field LaneRecord.mask _ (fun _ _ => by rfl) _ _,
    foldl_field LaneRecord.capabilities _ (fun _ _ => by rfl) _ _⟩

@[simp] theorem House.setLane_abandon_setup (h : House) (n : Nat) : (h.setLane n (h.lane n).abandon).setup = h.setup :=
  h.setLane_setup n _ rfl rfl rfl

@[simp] theorem House.setLane_dropDelivery_setup (h : House) (n : Nat) : (h.setLane n (h.lane n).dropDelivery).setup = h.setup :=
  h.setLane_setup n _ rfl rfl rfl

@[simp] theorem House.setLane_dropCycle_setup (h : House) (n : Nat) : (h.setLane n (h.lane n).dropCycle).setup = h.setup :=
  h.setLane_setup n _ rfl rfl rfl

@[simp] theorem House.setLane_closingLost_setup (h : House) (n : Nat) : (h.setLane n (h.lane n).closingLost).setup = h.setup :=
  h.setLane_setup n _ rfl rfl rfl

@[simp] theorem House.setLane_warmingCloses_setup (h : House) (n : Nat) : (h.setLane n (h.lane n).warmingCloses).setup = h.setup :=
  h.setLane_setup n _ rfl rfl rfl

@[simp] theorem House.setLane_freeze_setup (h : House) (n : Nat) : (h.setLane n (h.lane n).freeze).setup = h.setup :=
  h.setLane_setup n _ rfl rfl rfl

@[simp] theorem House.setLane_resetWork_setup (h : House) (n : Nat) : (h.setLane n (h.lane n).resetWork).setup = h.setup :=
  h.setLane_setup n _ rfl rfl rfl

@[simp] theorem House.setLane_enterClosing_setup (h : House) (n : Nat) : (h.setLane n (h.lane n).enterClosing).setup = h.setup :=
  h.setLane_setup n _ rfl rfl rfl

@[simp] theorem House.setLane_note_setup (h : House) (n : Nat) (r : RaiseRecord) : (h.setLane n ((h.lane n).note r)).setup = h.setup :=
  h.setLane_setup n _ rfl rfl rfl

/-! ### Operations that write no lane record -/

@[simp] theorem House.report_setup (h : House) (n : Nat) : (h.report n).setup = h.setup :=
  House.setup_of_lanes (by simp)

@[simp] theorem House.giveOrder_setup (h : House) (n : Nat) (o : OrderKind) : (h.giveOrder n o).setup = h.setup :=
  House.setup_of_lanes (by simp)

@[simp] theorem House.setBowler_setup (h : House) (k : Nat) (b : Option BowlerRecord) : (h.setBowler k b).setup = h.setup :=
  House.setup_of_lanes (by simp)

@[simp] theorem House.setSquad_setup (h : House) (q : Nat) (r : Option SquadRecord) : (h.setSquad q r).setup = h.setup :=
  House.setup_of_lanes (by simp)

@[simp] theorem House.setTab_setup (h : House) (t : Nat) (r : Option TabRecord) : (h.setTab t r).setup = h.setup :=
  House.setup_of_lanes (by simp)

@[simp] theorem House.setPlan_setup (h : House) (p : Nat) (r : Option RatePlan) : (h.setPlan p r).setup = h.setup :=
  House.setup_of_lanes (by simp)

@[simp] theorem House.setRet_setup (h : House) (p : Nat) (r : ReturnRecord) : (h.setRet p r).setup = h.setup :=
  House.setup_of_lanes (by simp)

@[simp] theorem House.setSlot_setup (h : House) (p : Nat) (m : ModuleSlot) : (h.setSlot p m).setup = h.setup :=
  House.setup_of_lanes (by simp)

@[simp] theorem House.setUnqueued_setup (h : House) (n : Nat) (u : UnqueuedSet) : (h.setUnqueued n u).setup = h.setup :=
  House.setup_of_lanes (by simp)

@[simp] theorem House.answer_setup (h : House) (a : Answer) : (h.answer a).setup = h.setup :=
  House.setup_of_lanes (by simp)

@[simp] theorem House.hunt_setup (h : House) : h.hunt.setup = h.setup :=
  House.setup_of_lanes (by simp)

@[simp] theorem House.pollEnds_setup (h : House) : h.pollEnds.setup = h.setup :=
  House.setup_of_lanes (by simp)

@[simp] theorem House.refreshSummary_setup (h : House) : h.refreshSummary.setup = h.setup :=
  House.setup_of_lanes (by simp)

@[simp] theorem House.takeRaise_setup (h : House) (n : Nat) (k : CallKind) (code : Option Half) : (h.takeRaise n k code).setup = h.setup :=
  House.setup_of_lanes (by simp)

@[simp] theorem House.fillQueue_setup (h : House) : h.fillQueue.setup = h.setup :=
  House.setup_of_lanes (by simp)

@[simp] theorem House.removeCall_setup (h : House) (number : Nat) : (h.removeCall number).setup = h.setup :=
  House.setup_of_lanes (by simp)

@[simp] theorem House.retireWakeFail_setup (h : House) (n : Nat) : (h.retireWakeFail n).setup = h.setup :=
  House.setup_of_lanes (by simp)

@[simp] theorem House.closeGame_setup (h : House) (q : Nat) : (h.closeGame q).setup = h.setup :=
  House.setup_of_lanes (by simp)

@[simp] theorem House.squadAt_setup (h : House) (q f : Nat) (state : SquadState) : (h.squadAt q f state).setup = h.setup :=
  House.setup_of_lanes (by simp)

@[simp] theorem House.makeUp_setup (h : House) (q place : Nat) : (h.makeUp q place).setup = h.setup :=
  House.setup_of_lanes (by simp)

@[simp] theorem House.mapBowlers_setup (h : House) (order : List Nat) (change : BowlerRecord → BowlerRecord) : (h.mapBowlers order change).setup = h.setup :=
  House.setup_of_lanes (by simp)

@[simp] theorem House.emptyReturn_setup (h : House) (p : Nat) : (h.emptyReturn p).setup = h.setup :=
  House.setup_of_lanes (by simp)

@[simp] theorem House.endJam_setup (h : House) (p : Nat) : (h.endJam p).setup = h.setup :=
  House.setup_of_lanes (by simp)

@[simp] theorem House.poll_setup (h : House) : h.poll.setup = h.setup :=
  House.setup_of_lanes (by simp)

@[simp] theorem House.refuseHeader_setup (h : House) (s : Byte) : (h.refuseHeader s).setup = h.setup :=
  House.setup_of_lanes (by simp)

@[simp] theorem House.frameGap_setup (h : House) : h.frameGap.setup = h.setup :=
  House.setup_of_lanes (by simp)

@[simp] theorem House.reportAll_setup (h : House) : h.reportAll.setup = h.setup :=
  House.setup_of_lanes (by simp)

@[simp] theorem House.restartReturns_setup (h : House) : h.restartReturns.setup = h.setup :=
  House.setup_of_lanes (by simp)

@[simp] theorem House.charge_setup (h : House) (n k : Nat) : (h.charge n k).1.setup = h.setup :=
  House.setup_of_lanes (by simp)

/-! ### Causes, orders and cycles -/

@[simp] theorem House.addCause_setup (h : House) (n : Nat) (c : HoldCause) : (h.addCause n c).setup = h.setup := by
  simp (disch := first | exact rfl | simp) [House.addCause]

@[simp] theorem House.removeCause_setup (h : House) (n : Nat) (c : HoldCause) : (h.removeCause n c).setup = h.setup := by
  simp (disch := first | exact rfl | simp) [House.removeCause]

@[simp] theorem House.orderCycle_setup (h : House) (n : Nat) (kind : CycleKind) (pins : PinSet) (retry : Bool) : (h.orderCycle n kind pins retry).setup = h.setup := by
  simp (disch := first | exact rfl | simp) [House.orderCycle]

@[simp] theorem House.beginRecovery_setup (h : House) (n : Nat) : (h.beginRecovery n).setup = h.setup := by
  simp (disch := first | exact rfl | simp) [House.beginRecovery]

@[simp] theorem House.startRecovery_setup (h : House) (n : Nat) : (h.startRecovery n).setup = h.setup := by
  unfold House.startRecovery; try dsimp only
  (repeat' split) <;> simp (disch := first | exact rfl | simp)

@[simp] theorem House.handNeed_setup (h : House) (n : Nat) (kind : CycleKind) (pins : PinSet) : (h.handNeed n kind pins).setup = h.setup := by
  unfold House.handNeed; (repeat' split) <;> simp (disch := first | exact rfl | simp)

@[simp] theorem House.handStarts_setup (h : House) (home : Nat) (squads : List Nat) : (h.handStarts home squads).setup = h.setup := by
  unfold House.handStarts
  exact (foldl_field House.setup _ (fun _ _ => by (repeat' split) <;> simp (disch := first | exact rfl | simp)) _ _)

@[simp] theorem House.handSweeps_setup (h : House) (before : House) (lanes : List Nat) : (h.handSweeps before lanes).setup = h.setup := by
  unfold House.handSweeps
  exact (foldl_field House.setup _ (fun _ _ => by (repeat' split) <;> simp (disch := first | exact rfl | simp)) _ _)

@[simp] theorem House.startWarmUp_setup (h : House) (n : Nat) : (h.startWarmUp n).setup = h.setup := by
  simp (disch := first | exact rfl | simp) [House.startWarmUp]

@[simp] theorem House.warmAgain_setup (h : House) (n : Nat) : (h.warmAgain n).setup = h.setup := by
  simp (disch := first | exact rfl | simp) [House.warmAgain]

@[simp] theorem House.followCall_setup (h : House) (n : Nat) (before : Bool) : (h.followCall n before).setup = h.setup := by
  unfold House.followCall; (repeat' split) <;> simp (disch := first | exact rfl | simp)

@[simp] theorem House.raiseCall_setup (h : House) (lane : Nat) (k : CallKind) (code : Option Half) : (h.raiseCall lane k code).setup = h.setup := by
  unfold House.raiseCall
  exact (foldl_field House.setup _ (fun _ _ => by simp (disch := first | exact rfl | simp)) _ _).trans (by simp (disch := first | exact rfl | simp))

/-! ### Squads and their games -/

@[simp] theorem House.stopSquad_setup (h : House) (q : Nat) (point : StopPoint) : (h.stopSquad q point).setup = h.setup := by
  unfold House.stopSquad; (repeat' split) <;> simp (disch := first | exact rfl | simp)

@[simp] theorem House.stopAtStart_setup (h : House) (q : Nat) : (h.stopAtStart q).setup = h.setup := by
  unfold House.stopAtStart; (repeat' split) <;> simp (disch := first | exact rfl | simp)

@[simp] theorem House.stopAtFrame_setup (h : House) (q f : Nat) : (h.stopAtFrame q f).setup = h.setup := by
  unfold House.stopAtFrame; try dsimp only
  (repeat' split) <;> simp (disch := first | exact rfl | simp)

@[simp] theorem House.startSquad_setup (h : House) (q : Nat) : (h.startSquad q).setup = h.setup := by
  unfold House.startSquad; try dsimp only
  (repeat' split) <;> simp (disch := first | exact rfl | simp)

@[simp] theorem House.leaveDone_setup (h : House) (l : List Nat) : (h.leaveDone l).setup = h.setup := by
  unfold House.leaveDone
  exact (foldl_field House.setup _ (fun _ _ => by (repeat' split) <;> simp (disch := first | exact rfl | simp)) _ _)

@[simp] theorem House.placeSquad_setup (h : House) (q n : Nat) : (h.placeSquad q n).setup = h.setup := by
  unfold House.placeSquad; try dsimp only
  (repeat' split) <;> simp (disch := first | exact rfl | simp)

@[simp] theorem House.unstop_setup (h : House) (q : Nat) (state : SquadState) : (h.unstop q state).setup = h.setup := by
  unfold House.unstop; (repeat' split) <;> simp (disch := first | exact rfl | simp)

/-- A continuation of a rotation that keeps the setup of every lane. -/
abbrev KeepsSetup (again : House → Nat → House) : Prop := ∀ (h : House) (q : Nat), (again h q).setup = h.setup

theorem House.applyCharge_setup (again : House → Nat → House) (keeps : KeepsSetup again) (h : House) (home : Nat)
    (squads : List Nat) (accepted : Bool) : (House.applyCharge again h home squads accepted).setup = h.setup := by
  unfold House.applyCharge
  split
  · rw [House.handStarts_setup]
    exact (foldl_field House.setup _ keeps _ _).trans (foldl_field House.setup _ (fun _ _ => by simp) _ _)
  · exact foldl_field House.setup _ (fun _ _ => by simp) _ _

theorem House.nextGame_setup (again : House → Nat → House) (keeps : KeepsSetup again) (h : House) (home q : Nat) :
    (House.nextGame again h home q).setup = h.setup := by
  unfold House.nextGame
  split
  · rfl
  · dsimp only
    repeat' split
    all_goals
      first
        | exact House.leaveDone_setup _ _
        | exact (House.applyCharge_setup again keeps _ _ _ _).trans (by simp)

theorem House.endGame_setup (again : House → Nat → House) (keeps : KeepsSetup again) (h : House) (home q : Nat) :
    (House.endGame again h home q).setup = h.setup := by
  unfold House.endGame
  dsimp only
  split
  · refine (House.nextGame_setup again keeps _ _ _).trans ?_
    split <;> simp
  · exact (House.nextGame_setup again keeps _ _ _).trans (by simp)

theorem House.swap_setup (again : House → Nat → House) (keeps : KeepsSetup again) (h : House) (q p f : Nat) :
    (House.swap again h q p f).setup = h.setup := by
  unfold House.swap
  split
  · simp [keeps]
  · rfl

theorem House.endSquadFrame_setup (again : House → Nat → House) (keeps : KeepsSetup again) (h : House) (home q : Nat)
    (bowled : Bool) : (House.endSquadFrame again h home q bowled).setup = h.setup := by
  unfold House.endSquadFrame
  dsimp only
  (repeat' split) <;> simp [keeps, House.endGame_setup again keeps, House.swap_setup again keeps]

/-- The rotation of a squad keeps the setup of every lane. -/
theorem House.rotate_setup (home fuel : Nat) (h : House) (q : Nat) (bowled : Bool) :
    (House.rotate home fuel h q bowled).setup = h.setup := by
  induction fuel generalizing h q bowled with
  | zero => rfl
  | succ fuel ih =>
    unfold House.rotate
    split
    · rfl
    · split
      · simp
      · exact House.endSquadFrame_setup _ (fun h q => ih h q false) h home q bowled

@[simp] theorem House.passOn_setup (h : House) (home q : Nat) (bowled : Bool) : (h.passOn home q bowled).setup = h.setup := by
  exact House.rotate_setup ..

@[simp] theorem House.bowlerFrameEnded_setup (h : House) (home k q : Nat) (tenth : Bool) : (h.bowlerFrameEnded home k q tenth).setup = h.setup := by
  simp (disch := first | exact rfl | simp) [House.bowlerFrameEnded]

@[simp] theorem House.scoreBall_setup (h : House) (n : Nat) (d : Delivery) (after : PinSet) :
    (h.scoreBall n d after).1.setup = h.setup := by
  unfold House.scoreBall; dsimp only; (repeat' split) <;> simp

@[simp] theorem House.leavePair_setup (h : House) (p : Nat) : (h.leavePair p).setup = h.setup := by
  have e (h : House) := House.endGame_setup (fun h q => h.passOn 0 q false) (fun h q => House.passOn_setup h 0 q false) h 0 p
  unfold House.leavePair
  split
  · rfl
  · dsimp only
    (repeat' split) <;> simp (disch := first | exact rfl | simp) [e]

@[simp] theorem House.retireSquad_setup (h : House) (q : Nat) : (h.retireSquad q).setup = h.setup := by
  have fold (l : List Nat) (h : House) : (l.foldl (fun h k => h.setBowler k none) h).setup = h.setup :=
    foldl_field House.setup _ (fun _ _ => by simp (disch := first | exact rfl | simp)) l h
  unfold House.retireSquad; dsimp only; (repeat' split) <;> simp (disch := first | exact rfl | simp) [fold]

@[simp] theorem House.reportRunOut_setup (h : House) (l : List Nat) : (h.reportRunOut l).setup = h.setup := by
  unfold House.reportRunOut
  exact (foldl_field House.setup _ (fun _ _ => by (repeat' split) <;> simp (disch := first | exact rfl | simp)) _ _)

@[simp] theorem House.releaseSquad_setup (h : House) (q : Nat) : (h.releaseSquad q).setup = h.setup := by
  unfold House.releaseSquad
  (repeat' split) <;> simp (disch := first | exact rfl | simp) [House.swap_setup (fun h q => h.passOn 0 q false) (fun h q => House.passOn_setup h 0 q false)]

@[simp] theorem House.releaseFrom_setup (before h : House) (q : Nat) : (before.releaseFrom h q).setup = h.setup := by
  unfold House.releaseFrom; split <;> simp

@[simp] theorem House.reportLifted_setup (h : House) (l : List Nat) : (h.reportLifted l).setup = h.setup := by
  unfold House.reportLifted
  rw [House.handSweeps_setup]
  exact foldl_field House.setup _ (fun _ _ => by simp (disch := first | exact rfl | simp)) _ _

/-! ### Discrepancies and the deck -/

@[simp] theorem House.settleAttention_setup (h : House) (n : Nat) (froze : Option Discrepancy) : (h.settleAttention n froze).setup = h.setup := by
  unfold House.settleAttention; try dsimp only
  (repeat' split) <;> simp (disch := first | exact rfl | simp)

@[simp] theorem House.recoverEmpty_setup (h : House) (n : Nat) : (h.recoverEmpty n).setup = h.setup := by
  unfold House.recoverEmpty; try dsimp only
  (repeat' split) <;> simp (disch := first | exact rfl | simp)

@[simp] theorem House.voidDelivery_setup (h : House) (n : Nat) : (h.voidDelivery n).setup = h.setup := by
  simp (disch := first | exact rfl | simp) [House.voidDelivery]

@[simp] theorem House.contextRemoved_setup (h : House) (n : Nat) : (h.contextRemoved n).setup = h.setup := by
  unfold House.contextRemoved; try dsimp only
  (repeat' split) <;> simp (disch := first | exact rfl | simp)

@[simp] theorem House.startWake_setup (h : House) (n : Nat) : (h.startWake n).setup = h.setup := by
  unfold House.startWake; try dsimp only
  (repeat' split) <;> simp (disch := first | exact rfl | simp)

@[simp] theorem House.completeDelivery_setup (h : House) (n : Nat) (after : PinSet) : (h.completeDelivery n after).setup = h.setup := by
  unfold House.completeDelivery; try dsimp only
  (repeat' split) <;> simp (disch := first | exact rfl | simp)

@[simp] theorem House.beginDelivery_setup (h : House) (n k : Nat) (speed : Option Half) : (h.beginDelivery n k speed).setup = h.setup := by
  simp (disch := first | exact rfl | simp) [House.beginDelivery]

/-- A raise keeps the setup of every lane where its two actions do (R109). -/
theorem House.raiseDiscrepancy_setup (h : House) (n : Nat) (r : RaiseRecord) (freezes : Bool) (masked unmasked : House → House)
    (a : ∀ k : House, (masked k).setup = k.setup) (b : ∀ k : House, (unmasked k).setup = k.setup) :
    (h.raiseDiscrepancy n r freezes masked unmasked).setup = h.setup := by
  have noted := House.setLane_note_setup h n r
  unfold House.raiseDiscrepancy
  dsimp only
  split
  · rw [House.settleAttention_setup, a, noted]
  · rw [House.settleAttention_setup, b, noted]

@[simp] theorem House.doubleBall_setup (h : House) (n : Nat) (d : Delivery) : (h.doubleBall n d).setup = h.setup :=
  House.raiseDiscrepancy_setup _ _ _ _ _ _ (fun _ => rfl) (fun _ => rfl)

@[simp] theorem House.earlyBall_setup (h : House) (n : Nat) : (h.earlyBall n).setup = h.setup := by
  refine House.raiseDiscrepancy_setup _ _ _ _ _ _ (fun k => ?_) (fun _ => rfl)
  dsimp only
  split
  · exact House.setLane_setup _ _ _ rfl rfl rfl
  · rfl

@[simp] theorem House.pinRise_setup (h : House) (n : Nat) (d : Delivery) (reading : PinSet) :
    (h.pinRise n d reading).setup = h.setup :=
  House.raiseDiscrepancy_setup _ _ _ _ _ _ (fun _ => by simp) (fun k => k.setLane_freeze_setup n)

@[simp] theorem House.phantomFall_setup (h : House) (n : Nat) (reading : PinSet) :
    (h.phantomFall n reading).setup = h.setup :=
  House.raiseDiscrepancy_setup _ _ _ _ _ _ (fun _ => rfl) (fun _ => rfl)

@[simp] theorem House.noReading_setup (h : House) (n : Nat) (d : Delivery) : (h.noReading n d).setup = h.setup := by
  unfold House.noReading
  dsimp only
  generalize e : h.setLane n _ = m
  have first : m.setup = h.setup := by rw [← e]; exact House.setLane_setup _ _ _ rfl rfl rfl
  rw [← first]
  refine House.raiseDiscrepancy_setup _ _ _ _ _ _ (fun k => ?_) (fun k => k.setLane_freeze_setup n)
  rw [House.giveOrder_setup]
  exact House.setLane_setup _ _ _ rfl rfl rfl

@[simp] theorem House.cycleFailed_setup (h : House) (n : Nat) (c : DeckCycle) (reading : PinSet) :
    (h.cycleFailed n c reading).setup = h.setup := by
  unfold House.cycleFailed
  split
  · simp
  · dsimp only
    generalize e : h.setLane n _ = m
    have first : m.setup = h.setup := by rw [← e]; exact House.setLane_setup _ _ _ rfl rfl rfl
    rw [← first]
    exact House.raiseDiscrepancy_setup _ _ _ _ _ _ (fun _ => by simp) (fun _ => House.setLane_setup _ _ _ rfl rfl rfl)

@[simp] theorem House.playedBall_setup (h : House) (n : Nat) (speed : Option Half) : (h.playedBall n speed).setup = h.setup := by
  unfold House.playedBall; try dsimp only
  (repeat' split) <;> simp (disch := first | exact rfl | simp)

@[simp] theorem House.readDeck_setup (h : House) (n : Nat) (reading : PinSet) : (h.readDeck n reading).setup = h.setup := by
  unfold House.readDeck; try dsimp only
  (repeat' split) <;> simp (disch := first | exact rfl | simp)

@[simp] theorem House.readerFail_setup (h : House) (n : Nat) : (h.readerFail n).setup = h.setup := by
  unfold House.readerFail; try dsimp only
  (repeat' split) <;> simp (disch := first | exact rfl | simp)

@[simp] theorem House.recoverySecond_setup (h : House) (n : Nat) : (h.recoverySecond n).setup = h.setup := by
  unfold House.recoverySecond; try dsimp only
  (repeat' split) <;> simp (disch := first | exact rfl | simp)

@[simp] theorem House.cyclePassed_setup (h : House) (n : Nat) (c : DeckCycle) : (h.cyclePassed n c).setup = h.setup := by
  unfold House.cyclePassed; try dsimp only
  (repeat' split) <;> simp (disch := first | exact rfl | simp)

@[simp] theorem House.finishCycle_setup (h : House) (n : Nat) (verification : Option PinSet) : (h.finishCycle n verification).setup = h.setup := by
  unfold House.finishCycle; try dsimp only
  (repeat' split) <;> simp (disch := first | exact rfl | simp)

@[simp] theorem House.sweepFrom_setup (h : House) (n : Nat) (left : PinSet) : (h.sweepFrom n left).setup = h.setup := by
  unfold House.sweepFrom; try dsimp only
  (repeat' split) <;> simp (disch := first | exact rfl | simp)

@[simp] theorem House.sweepStage_setup (h : House) (n : Nat) : (h.sweepStage n).setup = h.setup := by simp [House.sweepStage]

@[simp] theorem House.powerOffStep_setup (h : House) (n : Nat) : (h.powerOffStep n).setup = h.setup := by
  simp (disch := first | exact rfl | simp) [House.powerOffStep]

@[simp] theorem House.closingCycleEnds_setup (h : House) (n : Nat) (c : DeckCycle) (left : PinSet) :
    (h.closingCycleEnds n c left).setup = h.setup := by
  unfold House.closingCycleEnds; try dsimp only
  (repeat' split) <;> simp (disch := first | exact rfl | simp)

@[simp] theorem House.closingDeliveryEnds_setup (h : House) (n : Nat) : (h.closingDeliveryEnds n).setup = h.setup := by
  simp (disch := first | exact rfl | simp) [House.closingDeliveryEnds]

@[simp] theorem House.retireOn_setup (h : House) (n : Nat) : (h.retireOn n).setup = h.setup := by
  unfold House.retireOn; try dsimp only
  (repeat' split) <;> simp (disch := first | exact rfl | simp)

@[simp] theorem House.beginClosing_setup (h : House) (n : Nat) : (h.beginClosing n).setup = h.setup := by
  unfold House.beginClosing; try dsimp only
  (repeat' split) <;> simp (disch := first | exact rfl | simp)

@[simp] theorem House.firstCycle_setup (h : House) (n : Nat) : (h.firstCycle n).setup = h.setup := by
  unfold House.firstCycle; try dsimp only
  (repeat' split) <;> simp (disch := first | exact rfl | simp)

@[simp] theorem House.comeUp_setup (h : House) (n : Nat) : (h.comeUp n).setup = h.setup := by
  simp (disch := first | exact rfl | simp) [House.comeUp]

@[simp] theorem House.resolveAction_setup (h : House) (n : Nat) (c : RaiseRecord) (a : ResolveAction) : (h.resolveAction n c a).setup = h.setup := by
  unfold House.resolveAction House.acceptStanding; dsimp only; (repeat' split) <;> simp (disch := first | exact rfl | simp)

/-! ### Returns, calls and presence -/

@[simp] theorem House.raiseJam_setup (h : House) (p : Nat) (cause : JamCause) : (h.raiseJam p cause).setup = h.setup := by
  unfold House.raiseJam; try dsimp only
  (repeat' split) <;> simp (disch := first | exact rfl | simp)

@[simp] theorem House.returnExpires_setup (h : House) (p : Nat) : (h.returnExpires p).setup = h.setup := by
  simp (disch := first | exact rfl | simp) [House.returnExpires]

@[simp] theorem House.setReturnDeadline_setup (h : House) (p : Nat) : (h.setReturnDeadline p).setup = h.setup := by
  unfold House.setReturnDeadline; try dsimp only
  (repeat' split) <;> simp (disch := first | exact rfl | simp)

@[simp] theorem House.countOut_setup (h : House) (n : Nat) (mode : Mode) : (h.countOut n mode).setup = h.setup := by
  unfold House.countOut; try dsimp only
  (repeat' split) <;> simp (disch := first | exact rfl | simp)

@[simp] theorem House.countBack_setup (h : House) (p : Nat) : (h.countBack p).setup = h.setup := by
  unfold House.countBack; try dsimp only
  (repeat' split) <;> simp (disch := first | exact rfl | simp)

@[simp] theorem House.clearingEffects_setup (h : House) (n : Nat) (k : CallKind) (before : List (Nat × Bool)) : (h.clearingEffects n k before).setup = h.setup := by
  unfold House.clearingEffects
  split
  · refine (foldl_field House.setup _ (fun _ _ => by simp (disch := first | exact rfl | simp)) _ _).trans
      ((foldl_field House.setup _ (fun _ _ => by simp (disch := first | exact rfl | simp)) _ _).trans ?_)
    split <;> simp (disch := first | exact rfl | simp)
  · split <;> simp (disch := first | exact rfl | simp)

@[simp] theorem House.clearQueued_setup (h : House) (c : CallRecord) : (h.clearQueued c).setup = h.setup := by
  simp (disch := first | exact rfl | simp) [House.clearQueued]

@[simp] theorem House.clearUnqueued_setup (h : House) (n : Nat) (k : CallKind) : (h.clearUnqueued n k).setup = h.setup := by
  simp (disch := first | exact rfl | simp) [House.clearUnqueued]

@[simp] theorem House.laneLost_setup (h : House) (n : Nat) : (h.laneLost n).setup = h.setup := by
  unfold House.laneLost; try dsimp only
  (repeat' split) <;> simp (disch := first | exact rfl | simp)

@[simp] theorem House.declareAbsent_setup (h : House) (p : Nat) : (h.declareAbsent p).setup = h.setup := by
  unfold House.declareAbsent
  rw [House.setRet_setup]
  exact (foldl_field House.setup _ (fun _ _ => House.laneLost_setup _ _) _ _).trans (House.setup_of_lanes rfl)

@[simp] theorem House.declareOverflows_setup (h : House) : h.declareOverflows.setup = h.setup := by
  unfold House.declareOverflows
  exact (foldl_field House.setup _ (fun _ _ => by split <;> simp (disch := first | exact rfl | simp)) _ _)

@[simp] theorem House.settle_setup (h : House) : h.settle.setup = h.setup := by
  simp (disch := first | exact rfl | simp) [House.settle]

@[simp] theorem House.laneReturns_setup (h : House) (n : Nat) (lost : Bool) : (h.laneReturns n lost).setup = h.setup := by
  unfold House.laneReturns; try dsimp only
  (repeat' split) <;> simp (disch := first | exact rfl | simp)

@[simp] theorem House.declarePresent_setup (h : House) (p : Nat) : (h.declarePresent p).setup = h.setup := by
  unfold House.declarePresent
  rw [House.emptyReturn_setup]
  refine (foldl_field House.setup _ (fun _ _ => by simp (disch := first | exact rfl | simp)) _ _).trans ?_
  refine (foldl_field House.setup _ (fun _ _ => by split <;> simp (disch := first | exact rfl | simp)) _ _).trans ?_
  simp (disch := first | exact rfl | simp)

/-! ### Tabs -/

@[simp] theorem House.writeTabField_setup (h : House) (n t : Nat) (autoWake : Bool) : (h.writeTabField n t autoWake).setup = h.setup := by
  unfold House.writeTabField; try dsimp only
  (repeat' split) <;> simp (disch := first | exact rfl | simp)

@[simp] theorem House.attachLane_setup (h : House) (t : Nat) (r : TabRecord) (n : Nat) (autoWake : Bool) : (h.attachLane t r n autoWake).setup = h.setup := by
  simp (disch := first | exact rfl | simp) [House.attachLane]

@[simp] theorem House.detachLane_setup (h : House) (n : Nat) : (h.detachLane n).setup = h.setup := by
  unfold House.detachLane
  split
  · rfl
  · dsimp only
    refine (House.beginClosing_setup _ _).trans ?_
    refine (House.setLane_setup _ _ _ ?_ ?_ ?_).trans (House.setTab_setup _ _ _) <;> rfl

@[simp] theorem House.detachAll_setup (h : House) (r : TabRecord) : (h.detachAll r).setup = h.setup := by
  unfold House.detachAll
  exact (foldl_field House.setup _ (fun _ _ => by simp (disch := first | exact rfl | simp)) _ _)

@[simp] theorem House.reportAllowance_setup (h : House) (r : TabRecord) (was : Bool) : (h.reportAllowance r was).setup = h.setup := by
  unfold House.reportAllowance; (repeat' split) <;> simp (disch := first | exact rfl | simp)

@[simp] theorem House.meterTab_setup (h : House) (m t : Nat) : (h.meterTab m t).setup = h.setup := by
  unfold House.meterTab; try dsimp only
  (repeat' split) <;> simp (disch := first | exact rfl | simp)

@[simp] theorem House.meterAll_setup (h : House) (m : Nat) : (h.meterAll m).setup = h.setup := by
  unfold House.meterAll
  exact (foldl_field House.setup _ (fun _ _ => by simp (disch := first | exact rfl | simp)) _ _)

/-! ### Module events, timers and the warm start -/

@[simp] theorem House.takeReady_setup (h : House) (n : Nat) : (h.takeReady n).setup = h.setup := by
  unfold House.takeReady; try dsimp only
  (repeat' split) <;> simp (disch := first | exact rfl | simp)

@[simp] theorem House.laneBall_setup (h : House) (n : Nat) (speed : Option Half) : (h.laneBall n speed).setup = h.setup := by
  unfold House.laneBall; try dsimp only
  (repeat' split) <;> simp (disch := first | exact rfl | simp)

@[simp] theorem House.takeBallSeen_setup (h : House) (n : Nat) (speed : Option Half) : (h.takeBallSeen n speed).setup = h.setup := by
  unfold House.takeBallSeen; try dsimp only
  simp (disch := first | exact rfl | simp)

@[simp] theorem House.takeFoul_setup (h : House) (n : Nat) : (h.takeFoul n).setup = h.setup := by
  unfold House.takeFoul; try dsimp only
  (repeat' split) <;> simp (disch := first | exact rfl | simp)

@[simp] theorem House.takeDeckRead_setup (h : House) (n : Nat) (reading : PinSet) : (h.takeDeckRead n reading).setup = h.setup := by
  unfold House.takeDeckRead; try dsimp only
  (repeat' split) <;> simp (disch := first | exact rfl | simp)

@[simp] theorem House.takeCycleDone_setup (h : House) (n : Nat) (verification : Option PinSet) : (h.takeCycleDone n verification).setup = h.setup := by
  unfold House.takeCycleDone; try dsimp only
  (repeat' split) <;> simp (disch := first | exact rfl | simp)

@[simp] theorem House.takeFault_setup (h : House) (n : Nat) (code : Half) : (h.takeFault n code).setup = h.setup := by
  unfold House.takeFault; try dsimp only
  (repeat' split) <;> simp (disch := first | exact rfl | simp)

@[simp] theorem House.readingExpires_setup (h : House) (n : Nat) : (h.readingExpires n).setup = h.setup := by
  unfold House.readingExpires; try dsimp only
  (repeat' split) <;> simp (disch := first | exact rfl | simp)

@[simp] theorem House.cycleExpires_setup (h : House) (n : Nat) : (h.cycleExpires n).setup = h.setup := by
  unfold House.cycleExpires; try dsimp only
  (repeat' split) <;> simp (disch := first | exact rfl | simp)

@[simp] theorem House.foulExpires_setup (h : House) (n : Nat) : (h.foulExpires n).setup = h.setup := by
  unfold House.foulExpires; try dsimp only
  (repeat' split) <;> simp (disch := first | exact rfl | simp)

@[simp] theorem House.warmUpExpires_setup (h : House) (n : Nat) : (h.warmUpExpires n).setup = h.setup := by
  unfold House.warmUpExpires; try dsimp only
  (repeat' split) <;> simp (disch := first | exact rfl | simp)

@[simp] theorem House.returnDue_setup (h : House) (p : Nat) : (h.returnDue p).setup = h.setup := by
  unfold House.returnDue; try dsimp only
  (repeat' split) <;> simp (disch := first | exact rfl | simp)

@[simp] theorem House.noAnswerFrom_setup (h : House) (p : Nat) : (h.noAnswerFrom p).setup = h.setup := by
  unfold House.noAnswerFrom; try dsimp only
  (repeat' split) <;> simp (disch := first | exact rfl | simp)

@[simp] theorem House.noAnswer_setup (h : House) : h.noAnswer.setup = h.setup := by
  unfold House.noAnswer; try dsimp only
  (repeat' split) <;> simp (disch := first | exact rfl | simp)

@[simp] theorem House.restartLanes_setup (h : House) : h.restartLanes.setup = h.setup := by
  unfold House.restartLanes
  exact (foldl_field House.setup _ (fun _ _ => by simp (disch := first | exact rfl | simp)) _ _)

@[simp] theorem House.warmStart_setup (h : House) (cause : RestartCause) : (h.warmStart cause).setup = h.setup := by
  unfold House.warmStart
  rw [House.reportAll_setup, House.restartReturns_setup, House.restartLanes_setup]
  exact House.setup_of_lanes rfl

end Sys2Proof.Machine
end

