-- ==== Sys2Proof/Tests/Slice0.lean ====
section
/-! SUPPORT. Our own tests: the checks of WellFormed on ill-formed commands, the worked examples of the manual and small steps
of the commands, and for every statement with hypotheses a state and operands that meet them. -/

namespace Sys2Proof.Tests

set_option maxRecDepth 100000

-- One theorem after the other: run beside each other, their evaluations wait for one another in as many threads.
set_option Elab.async false

open Sys2Proof Sys2Proof.Machine

/-! ### Small states -/

/-- A header of the desk. -/
def desk : Header := { origin := .desk, sequence := 7#8 }

/-- A header of the console of pair `p`. -/
def console (p : Nat) : Header := { origin := .console p, sequence := 8#8 }

/-- A header of station `k`. -/
def station (k : Nat) : Header := { origin := .station k, sequence := 9#8 }

/-- A TIME plan of two bands. -/
def timePlan : RatePlan :=
  { kind := .time, bands := [⟨600, 1000⟩, ⟨1080, 1375⟩], increment := 15, rounding := .up, minimum := 2000 }

/-- An attached slot of lane `n`, metering. -/
def slotOf (n : Nat) : MeterSlot :=
  { lane := n, attached := true, bandSeconds := [0, 0], downtime := 0, condition := some .metering }

/-- An OPEN tab on plan 7 with the slots given. -/
def tabOf (slots : List MeterSlot) : TabRecord :=
  { state := .opened, plan := 7, slots := slots, gamesStarted := 3, lastStart := 2, gameCharges := ⟨0, false⟩,
    allowance := .games 9, lead := 10, warning := .none, runOut := false, items := [], bill := none }

/-- A bowler of squad `q` in a state, in a game. -/
def bowlerOf (q : Nat) (state : BowlerState) : BowlerRecord :=
  { squad := q, nameTag := [65#8], state := state, inGame := .yes, average := 150, gameNumber := 1, sheet := .blank,
    totals := [] }

/-- A squad on lane `n` that plays frame 1 with its first bowler UP. -/
def squadOf (n : Nat) (order : List Nat) : SquadRecord :=
  { lane := n, order := order, upPosition := some 0, frame := 1, mode := .openPlay, partner := none, side := none,
    pairGame := 0, autoNext := true, rule := ⟨0, 0, 300⟩, state := .playing, stopPoint := none }

/-- An evening's house: every module present, the clock set to 17:59:59.9, every plan defined. -/
def evening : House :=
  { House.cold with
    machine := { MachinePort.cold with slots := Vector.replicate 24 { ModuleSlot.cold with present := true } },
    clock := { isSet := true, day := 3, time := 64799, phase := 9, timebase := 5000 },
    plans := Vector.replicate 8 (some timePlan) }

/-- A lane in play with a full rack on its deck. -/
def live : LaneRecord :=
  { LaneRecord.cold with
    mode := .live, deck := .ready, standing := fullRack, tab := some 64, squad := some 48, capabilities := ⟨true, true, true⟩,
    options := { LaneOptions.cold with consoleEdits := true, consoleCorrections := true } }

/-- The evening's house with lane 48 as given, its squad 48 of the bowlers 384 (UP) and 1, and its tab 64. -/
def play (l : LaneRecord) : House :=
  ((((evening.setLane 48 l).setSquad 48 (some (squadOf 48 [384, 1]))).setBowler 384 (some (bowlerOf 48 .up))).setBowler 1
    (some (bowlerOf 48 .waiting))).setTab 64 (some (tabOf [slotOf 48]))

/-- The state between two steps with a house. -/
def st (h : House) : State := { house := h.refreshSummary, pending := [] }

/-- What most statements ask of a state: it is between two steps, and the desk sends the request. -/
abbrev Fine (s : State) : Prop := s.house.quiet ∧ s.desk desk

/-- What the statements on events ask of a state: it is between two steps, and the part runs. -/
abbrev Runs (s : State) : Prop := s.house.quiet ∧ s.house.runs = true

/-- A delivery of bowler 384 at the full rack, READ and due at once. -/
def ball : Delivery :=
  { bowler := 384, before := fullRack, foul := false, seen := 4990, speed := none, manner := .read, deadline := some 5000,
    reRead := false, frozen := false }

/-- A lane with a delivery in flight. -/
def withBall (d : Delivery) : LaneRecord := { live with deck := .delivery, delivery := some d }

/-- A lane with a cycle in flight, due at once. -/
def withCycle (kind : CycleKind) (pins : PinSet) (retry : Bool := false) : LaneRecord :=
  { live with
    deck := .cycling, standing := noPins,
    cycle := some { kind := kind, commanded := commandedSet kind pins, deadline := 5000, retry := retry } }

/-- A raise record of a kind. -/
def raiseOf (k : Discrepancy) (reading : Option PinSet) : RaiseRecord :=
  { kind := k, bowler := some 384, frame := some 1, ballIndex := some 1, before := some fullRack, reading := reading,
    cycleKind := none, commanded := none, time := none, holdsDelivery := false }

/-- A lane held by the unmasked flag of a kind. -/
def flagged (l : LaneRecord) (k : Discrepancy) (reading : Option PinSet) (holds : Bool) : LaneRecord :=
  { l with
    mode := .held, causes := { CauseSet.none with attention := true },
    flags := (Vector.replicate 6 false).set k.place true, mask := (Vector.replicate 6 true).set k.place false,
    raises := (Vector.replicate 6 none).set k.place (some (raiseOf k reading)),
    context := some { raiseOf k reading with holdsDelivery := holds } }

/-- A lane whose frozen delivery is held by NO_READING. -/
def frozenLane : LaneRecord := flagged (withBall { ball with frozen := true, deadline := none }) .noReading none true

/-- A WARMING lane due at once. -/
def warming : LaneRecord := { LaneRecord.cold with mode := .warming, warmUp := some 5000, tab := some 64 }

/-- A call of the queue. -/
def callOf (number lane : Nat) (kind : CallKind) (callClass : Nat) (taken : Option Nat) : CallRecord :=
  { number := number, lane := lane, kind := kind, callClass := callClass, station := taken, repeats := 1, opened := none,
    faultCode := none }

/-- A house with the calls given, and station 4 holding those it has taken. -/
def queued (h : House) (calls : List CallRecord) : House :=
  { h with calls := { h.calls with
    queue := calls, stations := numSet h.calls.stations 4 ((calls.filter fun c => c.station = some 4).map (·.number)) } }

/-- The evening's house with squads 47 and 48 on lanes 47 and 48, as given, and both lanes on tab 64. -/
def paired (l : LaneRecord) (ra rb : SquadRecord) : House :=
  ((((((evening.setLane 47 { l with squad := some 47 }).setLane 48 { live with squad := some 48 }).setSquad 47 (some ra)).setSquad 48
    (some rb)).setBowler 384 (some (bowlerOf 48 .waiting))).setBowler 1 (some (bowlerOf 47 .waiting))).setTab 64
      (some (tabOf [slotOf 47, slotOf 48]))

/-- A squad in open play between games. -/
def restingOn (n : Nat) (order : List Nat) : SquadRecord := { squadOf n order with state := .forming, upPosition := none }

/-- A squad bound to a partner. -/
def bound (r : SquadRecord) (partner : Nat) (side : Side) : SquadRecord :=
  { r with mode := .pairPlay, partner := some partner, side := some side }

/-! ### The checks of WellFormed refuse what cannot come to the part -/

theorem test_wellFormed_accepts :
    wellFormed (.laneStatus desk 49) = true ∧ wellFormed (.wake (console 24) 48) = true ∧ wellFormed (.ready 48) = true ∧
      wellFormed (.ballBack 24) = true ∧ wellFormed .poll = true := by decide

theorem test_wellFormed_refuses_an_origin :
    wellFormed (.laneStatus (console 0) 1) = false ∧ wellFormed (.laneStatus (console 25) 1) = false ∧
      wellFormed (.nextCall (station 0) 1) = false ∧ wellFormed (.nextCall (station 5) 1) = false := by decide

theorem test_wellFormed_refuses_a_long_list :
    wellFormed (.setOrder desk 1 (List.replicate 121 1)) = false ∧
      wellFormed (.clearFlags desk 1 (List.replicate 121 none)) = false ∧
      wellFormed (.formSquad desk 1 (List.replicate 121 ⟨[], 0⟩) none none) = false ∧
      wellFormed (.formSquad desk 1 [⟨List.replicate 121 65#8, 0⟩] none none) = false ∧
      wellFormed (.addBowler desk 1 ⟨List.replicate 121 65#8, 0⟩) = false ∧
      wellFormed (.setBowler desk 1 (some (List.replicate 121 65#8)) none) = false ∧
      wellFormed (.setClassMap desk (List.replicate 121 (none, 0))) = false ∧
      wellFormed (.setPlan desk 1 none (List.replicate 121 ⟨0, 0⟩) 1 none 0) = false := by decide

theorem test_wellFormed_refuses_a_lane_or_pair :
    wellFormed (.ready 0) = false ∧ wellFormed (.deckRead 49 noPins) = false ∧ wellFormed (.warmUpDeadline 49) = false ∧
      wellFormed (.ballBack 0) = false ∧ wellFormed (.present 25 ⟨true, true, true⟩) = false := by decide

/-! ### Worked examples of the manual -/

/-- A ball that left a set, as the Lane Unit hands it: the set before it does not matter below the owed set. -/
def left (pins : PinSet) : BallRecord := { pinfall := 0, before := fullRack, after := pins, foul := false, speed := none }

/-- The set of the pins numbered in a list (00_scope: pin 1 is bit 0). -/
def pinsAt (l : List Nat) : PinSet := l.foldl (fun s k => s ||| (1#10 <<< (k - 1))) noPins

/-- The game of section 3.12: 212, with its running totals. -/
def workedGame : Sheet :=
  recordGame [left noPins, left (pinsAt [7, 8, 10]), left noPins, left (pinsAt [10]), left (pinsAt [10]), left noPins,
    left noPins, left noPins, left (pinsAt [4, 9]), left (pinsAt [9]), left (pinsAt [4, 7, 8, 10]), left noPins, left noPins,
    left noPins, left noPins, left (pinsAt [7, 10])]

theorem test_worked_game_scores :
    (numbers 10).map (fun f => (workedGame.frame f).score) =
        [some 20, some 19, some 9, some 30, some 28, some 19, some 9, some 20, some 30, some 28] ∧
      (numbers 10).map (fun f => (workedGame.frame f).running) =
        [some 20, some 39, some 48, some 78, some 106, some 125, some 134, some 154, some 184, some 212] ∧
      workedGame.gameTotal = 212 ∧ workedGame.bonuses = [] := by decide

/-- Balls 7 to 9 of the worked game (03 TABLE 11). -/
theorem test_worked_game_bonuses :
    (recordGame ((workedGame.frames.toList.flatMap (·.balls)).take 7)).bonuses = [⟨4, 1, 10⟩, ⟨5, 2, 0⟩] ∧
      (recordGame ((workedGame.frames.toList.flatMap (·.balls)).take 8)).bonuses = [⟨5, 1, 10⟩, ⟨6, 2, 0⟩] ∧
      (recordGame ((workedGame.frames.toList.flatMap (·.balls)).take 9)).bonuses = [⟨6, 1, 8⟩] := by decide

theorem test_handicap_table :
    handicap ⟨220, 90, 300⟩ 171 = 44 ∧ handicap ⟨200, 80, 300⟩ 205 = 0 ∧ handicap ⟨250, 100, 120⟩ 100 = 120 ∧
      handicap ⟨210, 50, 300⟩ 209 = 0 := by decide

/-- The plan of 09 TABLE 2 and its band in force (bands numbered from 0 by start minute). -/
def tablePlan : RatePlan :=
  { kind := .time, bands := [⟨600, 1000⟩, ⟨1080, 1375⟩, ⟨1380, 875⟩], increment := 15, rounding := .up, minimum := 2000 }

theorem test_band_in_force :
    [30, 599, 600, 1079, 1080].map (bandAt tablePlan.bands) = [2, 2, 0, 0, 1] := by decide

/-- A tab whose one slot holds the seconds given. -/
def billed (seconds : List Nat) (items : List LineItem) : TabRecord :=
  { tabOf [{ lane := 9, attached := true, bandSeconds := seconds, downtime := 400, condition := some .metering }] with
    items := items }

/-- Tab 15 of section 10.4 (10 TABLE 3), under UP, NEAREST and DOWN. -/
theorem test_bill_of_an_evening :
    let r := billed [2400, 3650, 0] [⟨14, 2, 450⟩]
    let b := computeBill 15 r tablePlan none
    b.slots.flatMap (fun l => l.bands.map fun x => (x.units, x.roundedUp, x.charge)) =
        [(3, true, 3000), (5, true, 6875), (0, false, 0)] ∧
      b.slots.map (·.downtime) = [400] ∧ b.minimumApplied = false ∧ b.timeCharge = 9875 ∧ b.itemsTotal.amount = 900 ∧
      b.total = ⟨10775, false⟩ ∧
      (computeBill 15 r { tablePlan with rounding := .nearest } none).total.amount = 9400 ∧
      (computeBill 15 r { tablePlan with rounding := .down } none).timeCharge = 7500 := by decide

/-- Tab 7 of section 10.4 (10 TABLE 4), and the short lane after it. -/
theorem test_bill_at_close_and_minimum :
    (computeBill 7 (billed [4500, 4500, 0] [⟨14, 5, 450⟩]) tablePlan none).total.amount = 14125 ∧
      (let b := computeBill 1 (billed [0, 360, 0] []) tablePlan none
       b.minimumApplied = true ∧ b.timeCharge = 2000 ∧ b.beforeMinimum.amount = 1375) ∧
      (computeBill 1 (billed [0, 360, 0] []) { tablePlan with rounding := .down } none).timeCharge = 2000 ∧
      (computeBill 1 (billed [0, 0, 0] []) tablePlan none).timeCharge = 0 := by decide

/-- The check of R175 (generator x^16 + x^12 + x^5 + 1, start all ones, not reflected) of the digits 1 to 9: its published
check value. -/
theorem test_crc_check_value : crc [0x31#8, 0x32#8, 0x33#8, 0x34#8, 0x35#8, 0x36#8, 0x37#8, 0x38#8, 0x39#8] = 0x29B1#16 := by
  decide

/-! ### Small steps -/

/-- The house after a command. -/
def after (c : Instr) (s : State) : House :=
  match exec c s with
  | .next t => t.house
  | _ => s.house

/-- The result of the answer a request gets. -/
def result (c : Instr) (s : State) : Option Verdict := (after c s).port.answers.getLast?.map (·.result)

/-- The state of the tests: the evening's house with lane 48 as given. -/
abbrev room (l : LaneRecord) : State := st (play l)

/-- The reading of a deck as an event delivers it. -/
def reads (pins : List Nat) : Instr := .deckRead 48 (pinsAt pins)

/-- Ball 1 of 02 TABLE 8: the ball is seen, and the reading {7,10} completes the delivery with a RESPOT of {7,10}. -/
theorem test_ball_seen :
    let l := (after (.ballSeen 48 none) (room live)).lane 48
    l.deck = .delivery ∧ l.standing = fullRack ∧
      l.delivery.map (fun d => (d.bowler, d.before, d.foul, d.deadline)) = some (384, fullRack, false, some 5060) := by decide

theorem test_deck_read :
    let h := after (reads [7, 10]) (room (withBall ball))
    (h.lane 48).deck = .cycling ∧ (h.lane 48).standing = pinsAt [7, 10] ∧ (h.lane 48).delivery = none ∧
      (h.lane 48).cycle.map (fun y => (y.kind, y.commanded, y.deadline)) = some (.respot, some (pinsAt [7, 10]), 5120) ∧
      (h.bowler 384).map (fun b => ((b.sheet.frame 1).balls.map (·.pinfall), b.state)) = some ([8], .up) := by decide

theorem test_cycle_done :
    let l := (after (.cycleDone 48 (some (pinsAt [7, 10]))) (room (withCycle .respot (pinsAt [7, 10])))).lane 48
    l.deck = .ready ∧ l.standing = pinsAt [7, 10] ∧ l.cycle = none := by decide

/-- A foul opens the window of 4.0 s (02 TABLE 8), and is carried into the delivery of the ball. -/
theorem test_foul :
    ((after (.foul 48) (room live)).lane 48).foulMark = some 5040 ∧
      ((after (.ballSeen 48 none) (room { live with foulMark := some 5040 })).lane 48).delivery.map (·.foul) = some true := by
  decide

/-- A foul on the first ball puts the full rack back (section 2.10). -/
theorem test_foul_ball_restores :
    let h := after (reads [3, 6]) (room (withBall { ball with foul := true }))
    (h.lane 48).cycle.map (·.kind) = some .newRack ∧ (h.lane 48).standing = pinsAt [3, 6] ∧
      (h.bowler 384).map (fun b => (b.sheet.frame 1).balls.map (·.pinfall)) = some [0] := by decide

/-- A reading that does not come (section 2.10): masked NO_READING orders RE_READ. -/
theorem test_reading_deadline :
    let h := after (.readingDeadline 48) (room (withBall ball))
    (h.lane 48).deck = .delivery ∧ (h.lane 48).standing = fullRack ∧
      (h.lane 48).delivery.map (fun d => (d.reRead, d.deadline)) = some (true, some 5060) ∧
      (h.slot 24).orders = [⟨true, .reRead⟩] := by decide

/-- Pair 24 with a list of balls out. -/
def returning (entries : List Outstanding) (deadline : Option Nat) (jam : Option JamCause) : State :=
  st ((play live).setRet 24 { outstanding := entries, timeout := 40, deadline := deadline, jam := jam })

/-- 07 TABLE 2: the first BALL_BACK gives the new head its own deadline; a BALL_BACK while JAMMED sets none. -/
theorem test_ball_back :
    (after (.ballBack 24) (returning [⟨47, 4900⟩, ⟨48, 5025⟩] (some 5300) none)).ret 24 =
        { outstanding := [⟨48, 5025⟩], timeout := 40, deadline := some 5425, jam := none } ∧
      (after (.ballBack 24) (returning [⟨48, 4900⟩, ⟨47, 4950⟩] none (some .timeout))).ret 24 =
        { outstanding := [⟨47, 4950⟩], timeout := 40, deadline := none, jam := some .timeout } := by decide

theorem test_return_deadline :
    let h := after (.returnDeadline 24) (returning [⟨47, 4600⟩] (some 5000) none)
    (h.ret 24).jam = some .timeout ∧ (h.ret 24).deadline = none ∧ (h.lane 47).mode = .dark ∧ (h.lane 48).mode = .held ∧
      (h.lane 48).causes.call = true ∧ h.calls.queue.map (fun c => (c.lane, c.kind, c.callClass)) = [(47, .returnJam, 2)] := by
  decide

/-- 08 TABLE 3, requests 1, 5 and 8: the call taken and the credits of classes 2, 1 and 0 after it. -/
def dispatching (calls : List (Nat × Nat)) (credits : Vector Nat 4) : State :=
  st { evening with calls := { evening.calls with
    queue := calls.map fun c => callOf c.1 1 .assist c.2 none, credits := credits } }

theorem test_next_call :
    let taken := fun (calls : List (Nat × Nat)) (credits : Vector Nat 4) =>
      let h := after (.nextCall (station 4) 0) (dispatching calls credits)
      (numGet h.calls.stations [] 4, h.calls.credits)
    taken [(1, 2), (2, 2), (3, 2), (4, 2), (5, 2), (6, 1), (7, 1), (8, 1), (9, 0)] #v[0, 0, 0, 0] = ([1], #v[1, 2, 3, 0]) ∧
      taken [(5, 2), (6, 1), (7, 1), (8, 1), (9, 0)] #v[1, 2, 0, 0] = ([6], #v[1, 1, 0, 0]) ∧
      taken [(5, 2), (8, 1)] #v[0, 0, 0, 0] = ([5], #v[1, 2, 3, 0]) := by decide

/-- A machine jam holds a LIVE lane with CALL and drops the cycle (R42, R141). -/
theorem test_fault :
    let h := after (.fault 48 7#16) (room (withCycle .newRack noPins))
    (h.lane 48).mode = .held ∧ (h.lane 48).deck = .empty ∧ (h.lane 48).cycle = none ∧
      h.calls.queue.map (fun c => (c.kind, c.callClass, c.faultCode)) = [(.machineJam, 3, some 7#16)] := by decide

/-- Slot 9 of 11 TABLE 8, at slot 24: an answer taken empties the buffer and inverts the sequence. -/
def polled : House :=
  { (play (withCycle .respot (pinsAt [7, 10]))).setSlot 24
      { present := true, unanswered := 1, sequence := false, orders := [⟨true, .cycle .respot (pinsAt [7, 10])⟩],
        capabilities := ⟨true, true, true⟩, overflowed := false } with
    machine := { ((play live).setSlot 24
      { present := true, unanswered := 1, sequence := false, orders := [⟨true, .cycle .respot (pinsAt [7, 10])⟩],
        capabilities := ⟨true, true, true⟩, overflowed := false }).machine with pollOut := some ⟨24, false, 1⟩ } }

/-- The answer of module 24 byte by byte (11 TABLES 6 and 7): CYCLE_DONE of the even lane with verification {7,10}; its check
is computed. -/
def cycleDoneAnswer : List Byte :=
  0x5A#8 :: closeFrame [24#8, 0#8, 1#8, 0xC6#8, 0x02#8, 0x40#8]

theorem test_poll_answer :
    let h := after (.pollAnswer cycleDoneAnswer) (st polled)
    (h.slot 24).orders = [] ∧ (h.slot 24).sequence = true ∧ (h.slot 24).unanswered = 0 ∧ (h.lane 48).deck = .ready ∧
      (h.lane 48).standing = pinsAt [7, 10] := by decide

theorem test_poll_no_answer :
    ((after .pollNoAnswer (st polled)).slot 24).unanswered = 2 ∧
      ((after (.pollAnswer (cycleDoneAnswer.set 1 23#8)) (st polled)).slot 24).unanswered = 2 := by decide

/-- Tab 7 of 09 TABLE 9, as tab 64: the second ADD ITEM adds to the entry, and another price is refused. -/
theorem test_add_item :
    let s := st ((play live).setTab 64 (some { tabOf [slotOf 48] with items := [⟨14, 2, 450⟩] }))
    ((after (.addItem desk 64 14 3 450) s).tab 64).map (·.items) = some [⟨14, 5, 450⟩] ∧
      result (.addItem desk 64 14 1 500) s = some (.refused .outOfRange) := by decide

/-- 09 TABLE 9: lane 21 metered to 110 minutes sets the warning of MINUTES 120, and MINUTES 180 lifts it. -/
theorem test_warning :
    (({ tabOf [{ slotOf 48 with bandSeconds := [6599, 0] }] with allowance := .minutes 120 }).second 0).warning = .set ∧
      ((after (.adjustAllowance desk 64 (some (.minutes 180)) none)
        (st ((play live).setTab 64 (some { tabOf [{ slotOf 48 with bandSeconds := [6720, 0] }] with
          allowance := .minutes 120, warning := .acknowledged })))).tab 64).map (fun r => (r.warning, r.lead)) =
        some (.none, 10) := by decide

theorem test_clock_at_midnight :
    (after .secondBoundary (st { evening with clock := { isSet := true, day := 3, time := 86399, phase := 9, timebase := 1 } })).clock =
      { isSet := true, day := 4, time := 0, phase := 0, timebase := 2 } := by decide

theorem test_reset_idles : step State.reset = .next ⟨{ House.cold with clock := ⟨false, 0, 0, 1, 1⟩ }, []⟩ := rfl

/-! ### States that meet the hypotheses of the statements

One theorem for each statement with hypotheses: concrete states and operands that meet the hypotheses of each of its clauses,
at the ends of the ranges the hypotheses name. -/

/-- The house of a state `st h` with the modules of the evening is quiet. -/
theorem quiet_st {h : House} (modules : h.slotsFit) : (st h).house.quiet := ⟨modules, rfl, rfl⟩

theorem quiet_evening {h : House} (modules : h.machine = evening.machine) : (st h).house.quiet := by
  refine quiet_st fun p hp => ?_
  have fits : evening.slotsFit := by decide
  simpa [House.slot, modules] using fits p hp

theorem fine {h : House} (modules : h.machine = evening.machine := by rfl) (memory : h.memory = evening.memory := by rfl) :
    Fine (st h) :=
  ⟨quiet_evening modules, by simp [House.takesFrames, House.runs, House.refreshSummary, st, memory]; decide, rfl⟩

theorem runs {h : House} (modules : h.machine = evening.machine := by rfl) (memory : h.memory = evening.memory := by rfl) :
    Runs (st h) :=
  ⟨quiet_evening modules, by simp [House.runs, House.refreshSummary, st, memory]; decide⟩

/-- What the statements on requests of any origin ask of a state. -/
abbrev Sent (hd : Header) (s : State) : Prop := s.house.quiet ∧ s.takes hd

theorem sent {h : House} {hd : Header} (modules : h.machine = evening.machine := by rfl)
    (memory : h.memory = evening.memory := by rfl) (origin : originInRange hd.origin = true := by decide) : Sent hd (st h) :=
  ⟨quiet_evening modules, (fine modules memory).2.1, origin⟩

theorem witness_StoppedPartAndAbsentModulesTakeNothing :
    (let s := st { evening with memory := { evening.memory with mainPower := false } }
     s.house.runs = false ∧ Instr.laneStatus desk 48 ∉
       [.secondBoundary, .mainPowerLost, .sbokLow true, .sbokLow false, .powerReturn, .resetAsserted, .resetReleased]) ∧
      (let s := st { evening with memory := { evening.memory with restartOwed := true } }
       (asRequest (.laneStatus desk 48)).isSome = true ∧ s.house.takesFrames = false) ∧
      (let s := st House.cold
       s.house.quiet ∧ s.house.modulePresent 48 = false ∧ (s.house.slot 24).present = false) := by decide

theorem witness_ColdStartFillsTheRecords :
    let s := st { evening with memory := { evening.memory with mainPower := false, valid := false } }
    s.house.memory.mainPower = false ∧ s.house.memory.resetHeld = false ∧ s.house.memory.valid = false := by decide

/-- The evening's house with marks of the Record Memory: main power, RESET held, validity, a start that waits, RESTART owed. -/
def marked (power held valid waits owed : Bool) : State :=
  st { evening with memory := { evening.memory with
    mainPower := power, resetHeld := held, valid := valid, startWaits := waits, restartOwed := owed } }

theorem witness_StartsFollowTheSupplyAndReset :
    (∀ power held valid waits, let m := (marked power held valid waits false).house.memory
      m.mainPower = power ∧ m.resetHeld = held ∧ m.valid = valid ∧ m.startWaits = waits) ∧
      Fine (marked true false true false false) ∧
      ((marked true false true false true).house.runs = true ∧
        (marked true false true false true).house.memory.restartOwed = true) ∧
      (marked true false true false false).house.quiet ∧
      (marked true false true false false).house.memory.restartOwed = false := by
  refine ⟨by decide, ?_, by decide, ?_, by decide⟩
  · exact ⟨quiet_evening rfl, by decide⟩
  · exact quiet_evening rfl

theorem witness_WarmStartRestoresTheRecords :
    let h := play live
    isLane 48 = true ∧ isLane 1 = true ∧ isPair 24 = true ∧ (h.lane 48).keepsCauses = true ∧
      h.tab 64 = some (tabOf [slotOf 48]) ∧ (slotOf 48).attached = true ∧ (h.lane 48).tab = some 64 := by decide

/-- A lane taken DARK out of play, with its tab. -/
def darkened : LaneRecord := { LaneRecord.cold with tab := some 64 }

/-- A state that meets every invariant, and whose step is a DESK HOLD of a lane in play. -/
theorem witness_SummaryAndBoundsAreKeptByEveryStep :
    let s : State := { house := (play live).refreshSummary, pending := [.deskHold desk 48] }
    (∃ t, step s = .next t) ∧ s.house.summaryFollows ∧ s.house.slotsFit ∧ s.house.callsFit ∧ s.house.returnsFit ∧
      s.house.gamesFit :=
  ⟨⟨_, rfl⟩, ⟨rfl, rfl⟩, by decide, by decide, by decide, by decide⟩

theorem witness_HoldCausesFitTheModeInEveryStep :
    let s : State := { house := (play live).refreshSummary, pending := [.deskHold desk 48] }
    s.house.causesFit ∧ ∃ t, step s = .next t := ⟨by decide, _, rfl⟩

theorem witness_DeckAndAttentionFitInEveryStep :
    let s : State := { house := (play frozenLane).refreshSummary, pending := [.resolve desk 48 (some .void)] }
    s.house.decksFit ∧ ∃ t, step s = .next t := ⟨by decide, _, rfl⟩

theorem witness_LinkFollowsThePresenceOfTheModule :
    let s : State := { house := (play live).refreshSummary, pending := [.deskHold desk 48] }
    s.house.causesFit ∧ s.house.linksFit ∧ ∃ t, step s = .next t := ⟨by decide, by decide, _, rfl⟩

theorem witness_SettingsChangeOnlyByTheirCommands :
    (∃ t, exec (.deskHold desk 48) (room live) = .next t) ∧ mayStart (.deskHold desk 48) = false ∧
      (match Instr.deskHold desk 48 with | .setPlan .. | .clearPlan .. => false | _ => true) = true := ⟨⟨_, rfl⟩, rfl, rfl⟩

theorem witness_LaneStatusGivesThePresentRecord :
    Sent desk (room live) ∧ Sent (console 24) (room live) ∧ Sent (console 23) (room live) ∧
      (isLane 0 = false ∧ isLane 49 = false ∧ isLane 48 = true ∧ isLane 1 = true) ∧
      (∃ p, (console 23).origin = .console p ∧ p ≠ pairOf 48) ∧
      (∀ p, (console 24).origin = .console p → p = pairOf 48) ∧ (∀ p, desk.origin = .console p → p = pairOf 48) :=
  ⟨sent, sent, sent, by decide, ⟨23, rfl, by decide⟩, fun _ h => by cases h; rfl, fun _ h => by cases h⟩

theorem witness_ContextSquadAndBowlerReads :
    (((220 ≤ 220) ∧ 171 < 220 ∧ (220 - 171) * 90 / 100 ≤ 300 ∧ 120 < (250 - 100) * 100 / 100)) ∧
      Sent desk (room live) ∧ Sent (console 24) (room live) ∧
      (∀ p, (console 24).origin = .console p → p = pairOf 48) ∧
      (room live).house.squad 48 = some (squadOf 48 [384, 1]) ∧ (console 24).origin = .console (pairOf (squadOf 48 []).lane) ∧
      (room live).house.bowler 384 = some (bowlerOf 48 .up) ∧ isLane 48 = true ∧ isLane 49 = false ∧
      (room live).house.squad 49 = none ∧ (room live).house.squad 1 = none ∧ (room live).house.bowler 385 = none ∧
      (room live).house.bowler 2 = none :=
  ⟨by decide, sent, sent, fun _ h => by cases h; rfl, by decide⟩

theorem witness_HouseReadsAndTheClock :
    Sent desk (room live) ∧ Sent (console 24) (room live) ∧ Sent (station 4) (room live) ∧
      (∀ c, (console 24).origin = .console c → c = 24) ∧ ((console 24).origin = .console 24 ∧ 24 ≠ 1) ∧
      (isPair 24 = true ∧ isPair 1 = true ∧ isPair 0 = false ∧ isPair 25 = false ∧ isConsole (station 4).origin = false ∧
        isConsole (console 24).origin = true ∧ desk.origin = .desk ∧ (station 4).origin ≠ .desk) :=
  ⟨sent, sent, sent, fun _ h => by cases h; rfl, by decide, by decide⟩

/-- Tab 64 as a DUE tab with a frozen bill. -/
def dueTab : TabRecord :=
  let r := tabOf [{ slotOf 48 with attached := false, condition := none }]
  { r with state := .due, bill := some (computeBill 64 r timePlan none) }

/-- The evening's house with tab 64 as given and every lane DARK. -/
def tabbed (r : TabRecord) : State := st (evening.setTab 64 (some r))

theorem witness_TabAndBillReads :
    (Sent (console 23) (room live) ∧ Sent (console 24) (tabbed dueTab) ∧
      ((console 23).origin ≠ .desk ∧ (∀ m ∈ (tabOf [slotOf 48]).slots, (console 23).origin ≠ .console (pairOf m.lane)) ∧
        (room live).house.tab 63 = none ∧ (∀ m ∈ dueTab.slots, m.attached = false))) ∧
      Sent desk (room live) ∧ Sent (console 24) (room live) ∧ Sent desk (tabbed dueTab) ∧
      ((∃ m ∈ (tabOf [slotOf 48]).slots, m.attached = true ∧ (console 24).origin = .console (pairOf m.lane)) ∧
        desk.origin = .desk) ∧
      ((room live).house.tab 64 = some (tabOf [slotOf 48]) ∧ (room live).house.plan (tabOf []).plan = some timePlan ∧
        (tabOf []).state = .opened ∧ (tabOf []).bill = none) ∧
      ((tabbed dueTab).house.tab 64 = some dueTab ∧
        dueTab.bill = some (computeBill 64 (tabOf [{ slotOf 48 with attached := false, condition := none }]) timePlan none) ∧
        dueTab.state = .due) :=
  ⟨⟨sent, sent, by decide⟩, sent, sent, sent, ⟨⟨_, .head _, by decide⟩, rfl⟩, by decide, by decide⟩

theorem witness_SetLaneOptionsWritesTheOptionsNamed :
    Sent desk (room live) ∧ Sent (console 24) (room live) ∧
      (isLane 0 = false ∧ isLane 49 = false ∧ isLane 48 = true ∧ (console 24).origin ≠ .desk ∧ desk.origin = .desk) :=
  ⟨sent, sent, by decide⟩

/-- A lane held by the causes given. -/
def heldBy (c : CauseSet) : LaneRecord := { live with mode := .held, causes := c, deck := .empty, standing := noPins }

theorem witness_DeskHoldsAndReleases :
    Fine (room live) ∧ Sent (console 24) (room live) ∧ Sent (console 24) (room (heldBy { CauseSet.none with desk := true })) ∧
      Sent (console 24) (room (heldBy { CauseSet.none with restart := true })) ∧
      (isLane 0 = false ∧ isLane 49 = false ∧ desk.origin = .desk ∧ (console 24).origin ≠ .desk) ∧
      Fine (room (heldBy { CauseSet.none with desk := true })) ∧
      Fine (room (heldBy { CauseSet.none with restart := true })) ∧ Fine (room darkened) ∧
      (let l := (room live).house.lane 48
       isLane 48 = true ∧ l.keepsCauses = true ∧ l.causes.desk = false ∧ l.causes.restart = false) ∧
      (let l := (room (heldBy { CauseSet.none with desk := true })).house.lane 48
       l.keepsCauses = true ∧ l.causes.desk = true) ∧
      (let l := (room (heldBy { CauseSet.none with restart := true })).house.lane 48
       l.keepsCauses = true ∧ l.causes.restart = true) ∧
      ((room darkened).house.lane 48).keepsCauses = false :=
  ⟨fine, sent, sent, sent, by decide, fine, fine, fine, by decide⟩

theorem witness_DeckRecoveryAndNeedsFollowTheDeck :
    (let h := play live
     isLane 48 = true ∧ (h.lane 48).playing = true ∧ h.roomFor 48 ∧ ((h.lane 48).causes.link || (h.lane 48).causes.restart) = false ∧
       (h.lane 48).cycle.map (·.kind) ≠ some .resetMachine ∧ (h.lane 48).delivery = none ∧ (h.lane 48).deck = .ready ∧
       commandedSet .newRack noPins = some (h.lane 48).standing ∧ commandedSet .respot 1#10 ≠ some (h.lane 48).standing) ∧
      (let h := play (heldBy { CauseSet.none with restart := true })
       (h.lane 48).playing = true ∧ h.roomFor 48 ∧ ((h.lane 48).causes.link || (h.lane 48).causes.restart) = true ∧
         (h.lane 48).deck = .empty) ∧
      (let h := play (withCycle .resetMachine noPins)
       (h.lane 48).playing = true ∧ h.roomFor 48 ∧ (h.lane 48).cycle.map (·.kind) = some .resetMachine ∧
         (h.lane 48).deck = .cycling) ∧
      (let h := play (withBall ball)
       (h.lane 48).playing = true ∧ h.roomFor 48 ∧ (h.lane 48).cycle = none ∧ (h.lane 48).delivery.isSome = true ∧
         (h.lane 48).deck = .delivery) ∧
      (let h := play { live with deck := .idle, standing := noPins }
       isLane 48 = true ∧ h.roomFor 48 ∧ (h.lane 48).deck = .idle) := by decide

/-- The evening's house with the modules of every pair absent. -/
def unlinked (l : LaneRecord) : State := st { play l with machine := MachinePort.cold }

theorem fine_unlinked (l : LaneRecord) : Fine (unlinked l) := by
  refine ⟨quiet_st (h := { play l with machine := MachinePort.cold }) ?_, ?_, rfl⟩
  · have fits : House.cold.slotsFit := by decide
    exact fun p hp => fits p hp
  · exact (fine (h := play l)).2.1

theorem witness_WakesStartOrAnswerByMode :
    (Fine (room darkened) ∧ Fine (room LaneRecord.cold) ∧ Fine (unlinked darkened) ∧ Fine (room warming) ∧ Fine (room live) ∧
      Fine (room { LaneRecord.cold with mode := .out }) ∧
      (isLane 48 = true ∧ isLane 49 = false ∧ isLane 0 = false) ∧
      (((room darkened).house.lane 48).mode = .dark ∧ ((room darkened).house.lane 48).tab.isSome = true ∧
        (room darkened).house.modulePresent 48 = true ∧ (room darkened).house.roomFor 48) ∧
      (((unlinked darkened).house.lane 48).mode = .dark ∧ ((unlinked darkened).house.lane 48).tab.isSome = true ∧
        (unlinked darkened).house.modulePresent 48 = false) ∧
      (((room LaneRecord.cold).house.lane 48).mode = .dark ∧ ((room LaneRecord.cold).house.lane 48).tab = none) ∧
      ((room warming).house.lane 48).mode = .warming ∧ ((room live).house.lane 48).mode = .live ∧
      ((room { LaneRecord.cold with mode := .out }).house.lane 48).mode = .out) ∧
      Sent (console 24) (room live) ∧ Sent (console 23) (room live) ∧ Sent (console 24) (room warming) ∧
      Sent (console 24) (room { darkened with options := { LaneOptions.cold with consoleWake := true } }) ∧
      Sent (console 24) (room darkened) ∧ Fine (room darkened) ∧ Fine (unlinked darkened) ∧
      Sent (console 24) (room LaneRecord.cold) ∧ Sent (console 24) (room { LaneRecord.cold with mode := .closing }) ∧
      ((console 24).origin = .console (pairOf 48) ∧ (console 23).origin ≠ .desk ∧ (console 23).origin ≠ .console (pairOf 48) ∧
        isLane 48 = true ∧ ((room live).house.lane 48).playing = true) ∧
      (((room darkened).house.lane 48).playing = false ∧ ((room darkened).house.lane 48).mode = .dark ∧
        ((room darkened).house.lane 48).tab.isSome = true ∧ ((room darkened).house.lane 48).options.consoleWake = false ∧
        (room darkened).house.modulePresent 48 = true ∧ (unlinked darkened).house.modulePresent 48 = false) ∧
      ((room { darkened with options := { LaneOptions.cold with consoleWake := true } }).house.lane 48).options.consoleWake =
        true ∧
      ((room LaneRecord.cold).house.lane 48).tab = none ∧ ((room warming).house.lane 48).mode = .warming ∧
      ((room { LaneRecord.cold with mode := .closing }).house.lane 48).mode = .closing :=
  ⟨⟨fine, fine, fine_unlinked _, fine, fine, fine, by decide⟩,
    sent, sent, sent, sent, sent, fine, fine_unlinked _, sent, sent, by decide⟩

theorem witness_LaneOutAndLaneIn :
    Sent desk (room LaneRecord.cold) ∧ Sent (console 24) (room LaneRecord.cold) ∧
      Sent (console 24) (room { LaneRecord.cold with mode := .out }) ∧ Sent desk (room darkened) ∧
      Sent desk (room { LaneRecord.cold with mode := .out }) ∧ Sent desk (room live) ∧
      (isLane 0 = false ∧ isLane 49 = false ∧ isLane 48 = true ∧ desk.origin = .desk ∧ (console 24).origin ≠ .desk) ∧
      (((room LaneRecord.cold).house.lane 48).mode = .dark ∧ ((room LaneRecord.cold).house.lane 48).tab = none) ∧
      (((room darkened).house.lane 48).mode = .dark ∧ ((room darkened).house.lane 48).tab.isSome = true) ∧
      (let h := (room { LaneRecord.cold with mode := .out }).house
       (h.lane 48).mode = .out ∧ 7 < 8 ∧ h.clock.isSet = true ∧ h.freeTab.isSome = true ∧
         h.tab 64 = some (tabOf [slotOf 48])) ∧
      (((room live).house.lane 48).mode ≠ .dark ∧ ((room live).house.lane 48).mode ≠ .out) :=
  ⟨sent, sent, sent, sent, sent, sent, by decide⟩

theorem witness_LaneResetDropsTheWorkAndRecovers :
    Fine (room darkened) ∧ Fine (room (heldBy { CauseSet.none with link := true })) ∧ Fine (room (withBall ball)) ∧
      Fine (room (heldBy { CauseSet.none with restart := true })) ∧
      (isLane 48 = true ∧ ((room darkened).house.lane 48).playing = false) ∧
      (let l := (room (heldBy { CauseSet.none with link := true })).house.lane 48
       l.playing = true ∧ l.causes.link = true) ∧
      (let h := (room (withBall ball)).house
       (h.lane 48).playing = true ∧ (h.lane 48).causes.link = false ∧ h.roomFor 48 ∧ (h.lane 48).causes.restart = false) ∧
      (let h := (room (heldBy { CauseSet.none with restart := true })).house
       (h.lane 48).playing = true ∧ (h.lane 48).causes.link = false ∧ h.modulePresent 48 = true ∧
         (h.lane 48).causes.restart = true) :=
  ⟨fine, fine, fine, fine, by decide⟩

theorem witness_MoveCarriesSquadAndTab :
    (Sent (console 24) (room live) ∧ Fine (room { live with tab := none }) ∧
      Fine (st (paired live (bound (squadOf 47 [1]) 48 .a) (bound (squadOf 48 [384]) 47 .b))) ∧ Fine (unlinked live) ∧
      (isLane 0 = false ∧ isLane 49 = false ∧ (console 24).origin ≠ .desk ∧
        ((room { live with tab := none }).house.lane 48).tab = none ∧ ((room live).house.lane 2).playing = false) ∧
      (let h := (st (paired live (bound (squadOf 47 [1]) 48 .a) (bound (squadOf 48 [384]) 47 .b))).house
       (h.lane 48).playing = true ∧ (h.lane 48).squad = some 48 ∧ (h.squad 48).map (·.mode) = some .pairPlay ∧
         (h.lane 48).tab = some 64 ∧ (h.tab 64).map (·.slots.length) = some 2) ∧
      (let h := (unlinked live).house
       (h.lane 48).playing = true ∧ (h.lane 48).squad = some 48 ∧ (squadOf 48 []).mode = .openPlay ∧
         [slotOf 48].length < 2 ∧ (h.lane 48).delivery = none ∧ (h.lane 1).mode = .dark ∧ (h.lane 1).tab = none ∧
         h.modulePresent 1 = false ∧ ((room live).house.lane 48).mode ≠ .dark)) ∧
      Fine (room live) ∧ Fine (room (withBall ball)) ∧
      (let h := (room live).house
       isLane 48 = true ∧ isLane 1 = true ∧ 48 ≠ 1 ∧ (h.lane 48).playing = true ∧ (h.lane 48).squad = some 48 ∧
         (h.lane 48).tab = some 64 ∧ h.squad 48 = some (squadOf 48 [384, 1]) ∧ h.tab 64 = some (tabOf [slotOf 48]) ∧
         (tabOf [slotOf 48]).slots = [slotOf 48] ∧ (slotOf 48).lane = 48 ∧ (squadOf 48 [384, 1]).mode = .openPlay ∧
         (h.lane 1).mode = .dark ∧ (h.lane 1).tab = none ∧ h.modulePresent 1 = true ∧ (h.lane 48).delivery = none) ∧
      (let h := (room (withBall ball)).house
       (h.lane 48).playing = true ∧ (h.lane 48).squad = some 48 ∧ (h.lane 48).tab = some 64 ∧ (h.lane 1).mode = .dark ∧
         (h.lane 1).tab = none ∧ h.modulePresent 1 = true ∧ (h.lane 48).delivery.isSome = true) :=
  ⟨⟨sent, fine, fine, fine_unlinked _, by decide, by decide, by decide⟩, fine, fine, by decide⟩

/-- A delivery that is keyed in. -/
def keyed : Delivery := { ball with manner := .manual, deadline := none }

theorem witness_ManualEntryCompletesTheDelivery :
    Fine (room live) ∧ Sent (console 23) (room live) ∧ Sent (console 24) (room (withBall keyed)) ∧
      (isLane 0 = false ∧ isLane 49 = false ∧ (console 23).origin ≠ .desk ∧ (console 23).origin ≠ .console (pairOf 48) ∧
        (console 24).origin = .console (pairOf 48)) ∧ Fine (room (withBall ball)) ∧ Fine (room (withBall keyed)) ∧
      Fine (room (withBall { keyed with before := 1#10 })) ∧
      (isLane 48 = true ∧ ((room live).house.lane 48).delivery = none) ∧
      (((room (withBall ball)).house.lane 48).delivery = some ball ∧ ball.manner = .read) ∧
      (((room (withBall { keyed with before := 1#10 })).house.lane 48).delivery = some { keyed with before := 1#10 } ∧
        keyed.manner = .manual ∧ 2#10 &&& ~~~(1#10 : PinSet) ≠ noPins) ∧
      (let h := (room (withBall keyed)).house
       (h.lane 48).delivery = some keyed ∧ 512#10 &&& ~~~keyed.before = noPins ∧ h.bowler keyed.bowler = some (bowlerOf 48 .up) ∧
         (h.lane 48).recoveryOwed = false ∧ h.roomFor 48 ∧
         ((bowlerOf 48 .up).sheet.record keyed.before 512#10 (keyed.foul || (none : Option Bool).getD false) keyed.speed).2 =
           false) :=
  ⟨fine, sent, sent, by decide, fine, fine, fine, by decide⟩

/-- A lane held by a set that differs, with what the camera read. -/
def mismatched : LaneRecord :=
  flagged { live with deck := .empty, standing := noPins } .setMismatch (some 512#10) false

/-- A lane held by a PHANTOM_FALL, with the pins the camera saw. -/
def phantom (l : LaneRecord) : LaneRecord := flagged l .phantomFall (some 512#10) false

/-- The mismatched lane whose context keeps the cycle that did not set what it was commanded. -/
def unset (kind : CycleKind) (pins : PinSet) : LaneRecord :=
  { mismatched with context := mismatched.context.map fun r => { r with cycleKind := some kind, commanded := some pins } }

/-- The frozen lane that a second, later kind also holds. -/
def twiceHeld : LaneRecord :=
  { frozenLane with
    flags := frozenLane.flags.set Discrepancy.pinRise.place true, mask := frozenLane.mask.set Discrepancy.pinRise.place false,
    raises := frozenLane.raises.set Discrepancy.pinRise.place (some (raiseOf .pinRise (some 513#10))) }

theorem witness_MaskFlagsAndResolveFollowAttention :
    (Fine (room twiceHeld) ∧ (twiceHeld.playing = true ∧ twiceHeld.deckFits = true ∧ twiceHeld.contextFits = true ∧
        twiceHeld.attentionFits = true ∧ twiceHeld.frozen = true ∧ twiceHeld.context.map (·.kind) = some .noReading) ∧
      (∀ p ∈ [([Discrepancy.pinRise], true, true), ([.noReading], true, false), ([.noReading, .pinRise], false, false)],
        let t := after (.clearFlags desk 48 (p.1.map some)) (room twiceHeld)
        (t.lane 48).attention = p.2.1 ∧ (t.lane 48).delivery.isSome = p.2.2) ∧
      [none, some Discrepancy.pinRise].any (fun k => k.isNone) = true) ∧
    (Sent (console 24) (room live) ∧ Fine (room mismatched) ∧
      Fine (room (flagged mismatched .noReading none false)) ∧
      Fine (room (flagged (withCycle .newRack noPins) .setMismatch (some 512#10) false)) ∧
      Fine (room { mismatched with causes := { mismatched.causes with link := true } }) ∧
      (isLane 0 = false ∧ isLane 48 = true ∧ (console 24).origin ≠ .desk) ∧
      (let l := (room frozenLane).house.lane 48
       l.delivery = some { ball with frozen := true, deadline := none } ∧ l.context.map (·.reading) = some none ∧
         1#10 &&& ~~~(ball.before &&& 512#10) ≠ noPins) ∧
      (∀ l ∈ [flagged mismatched .noReading none false, mismatched,
          flagged (withCycle .newRack noPins) .setMismatch (some 512#10) false,
          { mismatched with causes := { mismatched.causes with link := true } }],
        ((room l).house.lane 48).context.isSome = true ∧ ((room l).house.lane 48).frozen = false) ∧
      ((flagged (withCycle .newRack noPins) .setMismatch (some 512#10) false).cycle.isSome = true ∧
        mismatched.context.map (·.kind) = some .setMismatch ∧
        (flagged mismatched .noReading none false).context.map (·.kind) = some .noReading)) ∧
      Fine (room live) ∧ Fine (room frozenLane) ∧
      (let l := (room live).house.lane 48
       isLane 48 = true ∧ l.playing = true ∧ l.deckFits = true ∧ l.contextFits = true ∧ l.attentionFits = true ∧
         l.context = none) ∧
      (let l := (room frozenLane).house.lane 48
       l.playing = true ∧ l.deckFits = true ∧ l.contextFits = true ∧ l.attentionFits = true ∧ l.frozen = true ∧
         l.attention = true ∧ l.context = some { raiseOf .noReading none with holdsDelivery := true } ∧
         resolveRefusal l { raiseOf .noReading none with holdsDelivery := true } .void = none) ∧
      (let t := after (.setDiscrepancyMask desk 48 (Vector.replicate 6 none)) (room frozenLane)
       (t.lane 48).attention = true) ∧
      (let t := after (.setDiscrepancyMask desk 48 (Vector.replicate 6 (some true))) (room frozenLane)
       (t.lane 48).attention = false) :=
  ⟨⟨fine, by decide⟩, ⟨sent, fine, fine, fine, fine, by decide, by decide, by decide, by decide⟩, fine, fine, by decide⟩

theorem witness_ResolveDisposesOfItsSubject :
    Fine (room mismatched) ∧ Fine (room frozenLane) ∧ Fine (room (unset .newRack fullRack)) ∧
      Fine (room (unset .respot 512#10)) ∧ Fine (room (phantom live)) ∧ Fine (room (phantom (withBall ball))) ∧
      Fine (room (flagged live .noReading none false)) ∧ Fine (room (flagged mismatched .noReading none false)) ∧
      Fine (room (flagged frozenLane .pinRise (some 513#10) true)) ∧
      (let h := (room mismatched).house
       isLane 48 = true ∧ (h.lane 48).playing = true ∧
         (h.lane 48).context = some { raiseOf .setMismatch (some 512#10) with holdsDelivery := false } ∧ h.roomFor 48 ∧
         (h.lane 48).causes.link = false ∧ (h.lane 48).causes.restart = false ∧ (h.lane 48).delivery = none ∧
         (h.lane 48).cycle = none ∧ (raiseOf .setMismatch (some 512#10)).reading = some 512#10) ∧
      (let h := (room frozenLane).house
       let d := { ball with frozen := true, deadline := none }
       (h.lane 48).playing = true ∧ (h.lane 48).context = some { raiseOf .noReading none with holdsDelivery := true } ∧
         h.roomFor 48 ∧ (h.lane 48).causes.link = false ∧ (h.lane 48).causes.restart = false ∧
         (h.lane 48).delivery = some d ∧ d.frozen = true ∧ (h.lane 48).cycle = none ∧
         h.bowler d.bowler = some (bowlerOf 48 .up) ∧ 512#10 &&& ~~~d.before = noPins ∧
         ((bowlerOf 48 .up).sheet.record d.before 512#10 d.foul d.speed).2 = false) ∧
      (∀ x ∈ [(CycleKind.newRack, (fullRack : PinSet)), (CycleKind.respot, (512#10 : PinSet))],
        let l := (room (unset x.1 x.2)).house.lane 48
        (room (unset x.1 x.2)).house.roomFor 48 ∧ l.playing = true ∧ l.delivery = none ∧ l.cycle = none ∧
          l.causes.link = false ∧ l.causes.restart = false ∧ (l.context.bind (·.cycleKind)) = some x.1 ∧
          (l.context.bind (·.commanded)) = some x.2 ∧ l.context.map (·.kind) = some .setMismatch) ∧
      (let l := (room (phantom live)).house.lane 48
       l.playing = true ∧ l.delivery = none ∧ l.cycle = none ∧ (l.context.map (·.kind)) = some .phantomFall ∧
         (l.context.bind (·.reading)) = some (512#10 : PinSet)) ∧
      (let l := (room (phantom (withBall ball))).house.lane 48
       l.playing = true ∧ l.delivery = some ball ∧ ball.frozen = false ∧ l.cycle = none ∧ l.context.isSome = true) ∧
      (let l := (room (flagged live .noReading none false)).house.lane 48
       l.context.map (·.kind) = some .noReading ∧ l.frozen = false ∧ l.deck ≠ .empty) ∧
      (let l := (room (flagged mismatched .noReading none false)).house.lane 48
       l.context.map (·.kind) = some .noReading ∧ l.frozen = false ∧ l.deck = .empty ∧ l.delivery = none ∧ l.cycle = none) ∧
      (let l := (room (flagged frozenLane .pinRise (some 513#10) true)).house.lane 48
       l.frozen = true ∧ l.context.map (·.holdsDelivery) = some true ∧ (l.context.bind (·.reading)) = some (513#10 : PinSet)) :=
  ⟨fine, fine, fine, fine, fine, fine, fine, fine, fine, by decide⟩

theorem witness_BallsSeenAndFoulsAreTaken :
    Runs (room live) ∧ Runs (room (withBall ball)) ∧ Runs (room { LaneRecord.cold with mode := .closing }) ∧
      Runs (returning ((numbers 8).map fun k => ⟨47, k⟩) none (some .full)) ∧
      Runs (st ((play { LaneRecord.cold with mode := .closing }).setRet 24
        { outstanding := (numbers 8).map fun k => ⟨47, k⟩, timeout := 40, deadline := none, jam := none })) ∧
      Runs (room darkened) ∧ Runs (room { live with foulMark := some 5000 }) ∧ Runs (room { live with foulMark := some 5001 }) ∧
      Runs (room (withCycle .newRack noPins)) ∧
      (let h := (room live).house
       isLane 48 = true ∧ h.modulePresent 48 = true ∧ (h.ret 24).outstanding.length < 8 ∧ 1 ≤ (h.ret 24).timeout ∧
         (h.lane 48).mode = .live ∧ (h.lane 48).deck = .ready ∧ h.upOn 48 = some 384 ∧ (h.lane 48).playing = true ∧
         (h.lane 48).delivery = none ∧ (h.lane 48).foulMark = none) ∧
      (let l := (room (withBall ball)).house.lane 48
       l.mode = .live ∧ l.deck = .delivery ∧ l.delivery = some ball ∧ l.playing = true) ∧
      (let l := (room (withCycle .newRack noPins)).house.lane 48
       l.deckFits = true ∧ l.mode = .live ∧ l.deck = .cycling) ∧
      ((room { LaneRecord.cold with mode := .closing }).house.lane 48).mode = .closing ∧
      (let h := (st ((play { LaneRecord.cold with mode := .closing }).setRet 24
         { outstanding := (numbers 8).map fun k => ⟨47, k⟩, timeout := 40, deadline := none, jam := none })).house
       (h.ret 24).outstanding.length = 8 ∧ (h.lane 48).mode = .closing ∧ h.modulePresent 48 = true) ∧
      (((room darkened).house.lane 48).mode = .dark ∧ ((room darkened).house.lane 48).playing = false) ∧
      (((room { live with foulMark := some 5000 }).house.lane 48).foulMark = some 5000 ∧
        5000 ≤ (room { live with foulMark := some 5000 }).house.clock.timebase) ∧
      (((room { live with foulMark := some 5001 }).house.lane 48).foulMark = some 5001 ∧
        (room { live with foulMark := some 5001 }).house.clock.timebase < 5001) :=
  ⟨runs, runs, runs, runs, runs, runs, runs, runs, runs, by decide⟩

/-- A ball whose set before held pin 1 alone. -/
def risen : Delivery := { ball with before := 1#10 }

/-- A lane with a mask bit clear. -/
def unmasked (k : Discrepancy) (l : LaneRecord) : LaneRecord := { l with mask := l.mask.set k.place false }

/-- A CLOSING lane with a delivery in flight. -/
def closingBall : LaneRecord := { withBall ball with mode := .closing, squad := none, tab := none }

/-- A lane whose re-read is due and whose delivery owes a recovery, with the hold causes given. -/
def failing (c : CauseSet) : LaneRecord :=
  { withBall { ball with reRead := true } with
    recoveryOwed := true, causes := c, mode := if c = .none then .live else .held }

theorem witness_DeckReadingsAndTheirDeadline :
    Runs (room live) ∧ Runs (room (withBall ball)) ∧ Runs (room (withBall keyed)) ∧ Runs (room frozenLane) ∧
      Runs (room (withBall risen)) ∧ Runs (room (unmasked .pinRise (withBall risen))) ∧
      Runs (room (withCycle .newRack noPins)) ∧ Runs (room darkened) ∧
      Runs (room { LaneRecord.cold with mode := .closing }) ∧ Runs (room closingBall) ∧
      Runs (room (withBall { ball with deadline := some 5001 })) ∧ Runs (room (unmasked .noReading (withBall ball))) ∧
      Runs (room (withBall { ball with reRead := true })) ∧ Runs (room (failing .none)) ∧
      Runs (room (failing { CauseSet.none with restart := true })) ∧
      (isLane 48 = true ∧ (room live).house.roomFor 48) ∧
      (let l := (room (withBall keyed)).house.lane 48
       l.playing = true ∧ l.delivery = some keyed ∧ keyed.manner = .manual) ∧
      (let l := (room frozenLane).house.lane 48
       l.playing = true ∧ l.delivery = some { ball with frozen := true, deadline := none } ∧ ball.manner = .read) ∧
      (((room (withBall ball)).house.lane 48).delivery = some ball ∧ ball.frozen = false ∧
        512#10 &&& ~~~ball.before = noPins) ∧
      (risen.manner = .read ∧ risen.frozen = false ∧ 3#10 &&& ~~~risen.before ≠ noPins ∧
        ((room (withBall risen)).house.lane 48).masked .pinRise = true ∧
        ((room (unmasked .pinRise (withBall risen))).house.lane 48).masked .pinRise = false) ∧
      (((room (withCycle .newRack noPins)).house.lane 48).delivery = none ∧
        ((room (withCycle .newRack noPins)).house.lane 48).cycle.isSome = true) ∧
      (let l := (room live).house.lane 48
       l.playing = true ∧ l.delivery = none ∧ l.cycle = none ∧ l.standing &&& ~~~fullRack = noPins ∧
         l.standing &&& ~~~(1#10 : PinSet) ≠ noPins ∧ l.deck ≠ .empty) ∧
      (let l := (room darkened).house.lane 48
       l.playing = false ∧ l.mode ≠ .closing ∧ l.delivery = none) ∧
      (let l := (room { LaneRecord.cold with mode := .closing }).house.lane 48
       l.mode = .closing ∧ l.delivery = none) ∧
      (let h := (room closingBall).house
       h.roomFor 48 ∧ (h.lane 48).mode = .closing ∧ (h.lane 48).delivery = some ball ∧ (h.lane 48).cycle = none ∧
         h.reached ball.deadline = true) ∧
      (room (withBall { ball with deadline := some 5001 })).house.reached (some 5001) = false ∧
      (let h := (room (withBall ball)).house
       h.reached ball.deadline = true ∧ (h.lane 48).playing = true ∧ ball.reRead = false ∧
         (h.lane 48).masked .noReading = true) ∧
      ((room (unmasked .noReading (withBall ball))).house.lane 48).masked .noReading = false ∧
      (let l := (room (withBall { ball with reRead := true })).house.lane 48
       l.delivery = some { ball with reRead := true } ∧ l.recoveryOwed = false) ∧
      ((room (withBall risen)).house.bowler risen.bowler = some (bowlerOf 48 .up) ∧
        ((bowlerOf 48 .up).sheet.record risen.before (3#10 &&& risen.before) risen.foul risen.speed).2 = false) ∧
      (let l := (room (failing .none)).house.lane 48
       l.delivery = some { ball with reRead := true } ∧ l.recoveryOwed = true ∧ l.cycle = none ∧ l.playing = true ∧
         l.causes.link = false ∧ l.causes.restart = false) ∧
      (let l := (room (failing { CauseSet.none with restart := true })).house.lane 48
       l.delivery = some { ball with reRead := true } ∧ l.recoveryOwed = true ∧ l.cycle = none ∧ l.playing = true ∧
         l.causes.restart = true) :=
  ⟨runs, runs, runs, runs, runs, runs, runs, runs, runs, runs, runs, runs, runs, runs, runs, by decide⟩

/-- A CLOSING lane in its sweep, with the cycle's deadline given. -/
def closingSweep (deadline : Nat) : LaneRecord :=
  { LaneRecord.cold with
    mode := .closing, deck := .cycling,
    cycle := some { kind := .sweep, commanded := some noPins, deadline := deadline, retry := false } }

/-- A CLOSING lane whose rack is still being set, with the cycle's deadline given. -/
def closingRack (deadline : Nat) : LaneRecord :=
  { closingSweep deadline with
    cycle := some { kind := .newRack, commanded := some fullRack, deadline := deadline, retry := false } }

/-- A state that CyclesEndAndFaultsRaiseCalls speaks of, with the cycle in flight. -/
abbrev Cycling (l : LaneRecord) (y : DeckCycle) : Prop :=
  Runs (room l) ∧ (room l).house.roomFor 48 ∧ ((room l).house.lane 48).cycle = some y

theorem cycling {l : LaneRecord} {y : DeckCycle} (cycle : l.cycle = some y) : Cycling l y :=
  ⟨runs, ⟨rfl, show ([] : List MachineOrder).length < 8 by decide⟩, cycle⟩

/-- The cycle of `withCycle`. -/
def cycleOf (kind : CycleKind) (pins : PinSet) (retry : Bool := false) : DeckCycle :=
  { kind := kind, commanded := commandedSet kind pins, deadline := 5000, retry := retry }

theorem witness_CyclesEndAndFaultsRaiseCalls :
    (Runs (room live) ∧ isLane 48 = true ∧ (room live).house.roomFor 48 ∧ ((room live).house.lane 48).cycle = none) ∧
      Cycling (withCycle .sweep noPins) (cycleOf .sweep noPins) ∧ Cycling (withCycle .respot 512#10) (cycleOf .respot 512#10) ∧
      Cycling { withCycle .newRack noPins with repeatOwed := true } (cycleOf .newRack noPins) ∧
      Cycling (withCycle .resetMachine noPins) (cycleOf .resetMachine noPins) ∧
      Cycling { withCycle .resetMachine noPins with squad := none } (cycleOf .resetMachine noPins) ∧
      Cycling (withCycle .newRack noPins true) (cycleOf .newRack noPins true) ∧
      Cycling (unmasked .setMismatch (withCycle .newRack noPins)) (cycleOf .newRack noPins) ∧
      Cycling (closingSweep 5000) { kind := .sweep, commanded := some noPins, deadline := 5000, retry := false } ∧
      Cycling (closingSweep 5001) { kind := .sweep, commanded := some noPins, deadline := 5001, retry := false } ∧
      Cycling { withCycle .respot 512#10 with repeatOwed := true } (cycleOf .respot 512#10) ∧
      Cycling (closingRack 5000) { kind := .newRack, commanded := some fullRack, deadline := 5000, retry := false } ∧
      Cycling { closingSweep 5000 with mode := .warming } { kind := .sweep, commanded := some noPins, deadline := 5000, retry := false } ∧
      ((withCycle .sweep noPins).playing = true ∧ (cycleOf .sweep noPins).commanded = some noPins ∧
        (cycleOf .respot 512#10).commanded = some 512#10 ∧ (cycleOf .newRack noPins).commanded = some fullRack ∧
        (cycleOf .resetMachine noPins).commanded = none ∧ live.capabilities.camera = true ∧ live.repeatOwed = false ∧
        (cycleOf .newRack noPins).commanded ≠ some (1#10 : PinSet) ∧ (cycleOf .newRack noPins true).retry = true) ∧
      ((room (withCycle .resetMachine noPins)).house.expectedDeck 48 = some (fullRack, true) ∧
        (room { withCycle .resetMachine noPins with squad := none }).house.expectedDeck 48 = none ∧
        (st (((play (withCycle .resetMachine noPins)).setBowler 384 (some { bowlerOf 48 .up with
          sheet := recordGame [left 512#10] })))).house.expectedDeck 48 = some (512#10, false)) ∧
      (((room (withCycle .newRack noPins)).house.lane 48).masked .setMismatch = true ∧
        ((room (unmasked .setMismatch (withCycle .newRack noPins))).house.lane 48).masked .setMismatch = false) ∧
      5000 ≤ (room live).house.clock.timebase ∧ (room live).house.clock.timebase < 5001 ∧
      (512#10 ≠ fullRack ∧ 512#10 ≠ noPins ∧ (closingRack 5000).mode = .closing ∧ (closingRack 5000).delivery = none ∧
        CycleKind.newRack ≠ .sweep) ∧
      (closingSweep 5000).mode = .closing ∧ ({ closingSweep 5000 with mode := .warming } : LaneRecord).playing = false :=
  ⟨⟨runs, by decide⟩, cycling rfl, cycling rfl, cycling rfl, cycling rfl, cycling rfl, cycling rfl, cycling rfl, cycling rfl,
    cycling rfl, cycling rfl, cycling rfl, cycling rfl, by decide⟩

/-- The warming lane's house with a WAKE_FAIL of lane 48 in the queue. -/
def wakeFailed : State := st (queued (play warming) [callOf 999 48 .wakeFail 1 none])

/-- The evening's house with lane 48 as given and module 24 absent, every other module present. -/
def lostModule (l : LaneRecord) : State :=
  st ((play l).setSlot 24 { ModuleSlot.cold with present := false, sequence := true })

theorem quiet_lostModule (l : LaneRecord) : (lostModule l).house.quiet := by
  have fits : (evening.setSlot 24 { ModuleSlot.cold with present := false, sequence := true }).slotsFit := by decide
  exact quiet_st fun p hp => fits p hp

theorem witness_LanesComeUpAndModulesReturn :
    Runs (room live) ∧ Runs (room warming) ∧ Runs wakeFailed ∧ Runs (room { warming with warmUp := none }) ∧
      Runs (room { warming with warmUp := some 5001 }) ∧
      ((lostModule (heldBy { CauseSet.none with link := true })).house.quiet ∧
        (lostModule (heldBy { CauseSet.none with link := true })).house.runs = true) ∧
      (isLane 48 = true ∧ isPair 24 = true ∧ (room live).house.roomFor 48 ∧ ((room live).house.lane 48).mode ≠ .warming) ∧
      (let h := (room warming).house
       (h.lane 48).mode = .warming ∧ h.calls.find 48 .wakeFail = none ∧ (h.unqueued 48).has .wakeFail = false ∧
         (h.lane 48).warmUp = some 5000 ∧ 5000 ≤ h.clock.timebase) ∧
      ((st ((play { warming with squad := some 48 }).setBowler 384 (some { bowlerOf 48 .up with
          sheet := recordGame [left 512#10] }))).house.expectedDeck 48 = some (512#10, false)) ∧
      (room warming).house.expectedDeck 48 = none ∧
      (wakeFailed.house.calls.find 48 .wakeFail = some (callOf 999 48 .wakeFail 1 none) ∧ wakeFailed.house.nextUnqueued = none ∧
        (wakeFailed.house.lane 48).mode = .warming) ∧
      ((room { warming with warmUp := none }).house.lane 48).warmUp = none ∧
      (room { warming with warmUp := some 5001 }).house.clock.timebase < 5001 ∧
      ((room live).house.slot 24).present = true ∧
      (let h := (lostModule (heldBy { CauseSet.none with link := true })).house
       (h.slot 24).present = false ∧ (h.slot 24).orders = [] ∧ (h.lane 47).busy = false ∧ (h.lane 48).busy = false ∧
         h.linkFits 47 = true ∧ h.linkFits 48 = true) :=
  ⟨runs, runs, runs, runs, runs, ⟨quiet_lostModule _, by decide⟩, by decide⟩

/-- Balls in each of the shapes that the frame tables tell apart. -/
theorem witness_RecordedBallsAreCreditedAndEndTheirFrames :
    (1 ≤ Sheet.blank.current ∧ Sheet.blank.current ≤ 10) ∧
      (let kept : Sheet := recordGame [left noPins, left noPins]
       kept.current = 3 ∧ (∃ a b, kept.bonuses = [a, b] ∧ a.frame = 1 ∧ a.owed ≤ 1 ∧ b.frame = 2 ∧ 2 ≤ b.owed) ∧
         earlyFrame ((kept.frame 3).balls ++ [left 512#10]) = .continues ∧
         earlyFrame ((kept.frame 3).balls ++ [{ left noPins with pinfall := 10 }]) = .ends .strike none (some 2)) ∧
      (let last := recordGame (List.replicate 9 (left noPins))
       last.current = 10 ∧ last.bonuses.map (·.frame) = [8, 9] ∧
         tenthFrame ((last.frame 10).balls ++ [{ left noPins with pinfall := 10 }]) = .continues) ∧
      (let strike : BallRecord := { pinfall := 10, before := fullRack, after := noPins, foul := false, speed := none }
       strike.foul = false ∧ strike.before = fullRack ∧ strike.after = noPins) ∧
      (let short : BallRecord := { pinfall := 1, before := 1#10, after := noPins, foul := false, speed := none }
       short.foul = false ∧ short.before ≠ fullRack ∧ short.before ≠ noPins ∧ short.after = noPins ∧
         short.pinfall = pinCount short.before) ∧
      (let empty : BallRecord := { pinfall := 0, before := noPins, after := noPins, foul := true, speed := none }
       empty.foul = true ∧ empty.before = noPins) ∧
      (let open_ : BallRecord := { pinfall := 9, before := fullRack, after := 512#10, foul := false, speed := none }
       open_.foul = false ∧ open_.after ≠ noPins ∧ open_.before ≠ noPins ∧ open_.pinfall ≠ pinCount open_.before) ∧
      (let foul : BallRecord := { pinfall := 0, before := fullRack, after := 512#10, foul := true, speed := none }
       foul.foul = true ∧ foul.before ≠ noPins) := by
  refine ⟨by decide, ⟨by decide, ⟨_, _, rfl, by decide⟩, by decide⟩, by decide, by decide, by decide, by decide, by decide,
    by decide⟩

theorem witness_BonusesAndRunningTotalsOfEveryGame :
    workedGame.over = true ∧ (workedGame.frame 10).score = some 28 ∧ (1 ≤ 1 ∧ 1 ≤ 10) ∧ (1 ≤ 10 ∧ 10 ≤ 10) := by decide

/-- A squad of eight names on lane 1, asked for of a LIVE lane with no squad. -/
def entryOf : BowlerEntry := { nameTag := [65#8], average := 301 }

/-- What the statements on squad edits ask of a state. -/
abbrev Edits (hd : Header) (n : Nat) (s : State) : Prop :=
  Sent hd s ∧ (hd.origin = .desk ∨ hd.origin = .console (pairOf n) ∧ (s.house.lane n).options.consoleEdits = true)

/-- A house whose bowler records are all alike: free, or in use. -/
theorem freeBowlers_alike {h : House} {x : Option BowlerRecord} (alike : h.bowlers = Vector.replicate 384 x) :
    h.freeBowlers = if x = none then 384 else 0 := by
  have each : ∀ k ∈ numbers 384, (h.bowler k).isNone = x.isNone := by
    intro k hk
    have inside := (mem_numbers 384 k).1 hk
    simp [House.bowler, numGet, alike, inside]
  rw [House.freeBowlers, List.filter_congr each]
  cases x
  · exact rfl
  · simp

/-- Lane 48 LIVE with no squad; every bowler record as given. -/
def unsquadded (x : Option BowlerRecord) : House :=
  { evening.setLane 48 { live with squad := none } with bowlers := Vector.replicate 384 x }

/-- A bowler's sheet with strikes in its first frames. -/
def strikes (n : Nat) : Sheet := recordGame (List.replicate n (left noPins))

/-- Squad 48 has ended squad frame 9 while squad 47 waits at 9. -/
def swapping : House :=
  ((paired live { bound (squadOf 47 [1]) 48 .a with frame := 9, state := .frameWait, upPosition := none }
    { bound (squadOf 48 [384]) 47 .b with frame := 9 }).setBowler 384
      (some { bowlerOf 48 .waiting with sheet := strikes 9 })).setBowler 1 (some { bowlerOf 47 .waiting with sheet := strikes 9 })

/-- Tab 64 run out. -/
def spent : TabRecord := { tabOf [slotOf 48] with allowance := .minutes 1, runOut := true }

/-- The two states of the partner that END SQUAD leaves: at a run-out tab, and before its next squad frame. -/
def partnered (r : TabRecord) : State := st (swapping.setTab 64 (some r))

theorem witness_SquadsAreFormedAndRetired :
    (Edits desk 48 (st (unsquadded none)) ∧ Edits (console 24) 48 (st (unsquadded none)) ∧ Edits desk 48 (room live) ∧
      Edits (console 24) 48 (room live)) ∧
    Fine (st (unsquadded none)) ∧ Fine (st (unsquadded (some (bowlerOf 1 .waiting)))) ∧ Fine (room live) ∧
      Fine (room (withBall ball)) ∧
      (let h := (st (unsquadded none)).house
       isLane 48 = true ∧ (h.lane 48).keepsCauses = true ∧ (h.lane 48).squad = none ∧
         (let e := List.replicate 8 entryOf
          1 ≤ e.length ∧ e.length ≤ 8 ∧ (e.all fun e => nameTagFits e.nameTag) = true) ∧
         h.freeSquad = some 1) ∧
      (List.replicate 8 entryOf).length ≤ (st (unsquadded none)).house.freeBowlers ∧
      (st (unsquadded (some (bowlerOf 1 .waiting)))).house.freeBowlers < [entryOf].length ∧
      (let h := (room live).house
       h.squad 48 = some (squadOf 48 [384, 1]) ∧ isLane (squadOf 48 []).lane = true ∧ (h.lane 48).delivery = none ∧
         (squadOf 48 []).mode = .openPlay) ∧
      ((room (withBall ball)).house.lane 48).delivery.isSome = true ∧
      ((Edits desk 48 (partnered (tabOf [slotOf 47, slotOf 48])) ∧ Edits (console 24) 47 (partnered spent) ∧
        Edits desk 47 (partnered spent)) ∧
      (let rq := { bound (squadOf 48 [384]) 47 .b with frame := 9 }
       let rp := { bound (squadOf 47 [1]) 48 .a with frame := 9, state := .frameWait, upPosition := none }
       ∀ r ∈ [tabOf [slotOf 47, slotOf 48], spent], let h := (partnered r).house
         h.squad 48 = some rq ∧ h.squad 47 = some rp ∧ (h.lane 48).delivery = none ∧ (h.lane 47).delivery = none ∧
           rq.mode = .pairPlay ∧ rq.partner = some 47 ∧ rp.partner = some 48 ∧ 47 ≠ 48 ∧ rp.state = .frameWait ∧
           rp.frame < 10 ∧ rq.state ≠ .frameWait ∧ h.runOutOn 47 = r.runOut ∧ rp.order[0]? = some 1 ∧ 1 ∉ rq.order ∧
           h.toBowl (rp.frame + 1) 1 = true)) := by
  refine ⟨⟨⟨sent, by decide⟩, ⟨sent, by decide⟩, ⟨sent, by decide⟩, ⟨sent, by decide⟩⟩, fine, fine, fine, fine, by decide, ?_, ?_,
    by decide, by decide, ⟨⟨sent, by decide⟩, ⟨sent, by decide⟩, ⟨sent, by decide⟩⟩, by decide⟩
  · rw [freeBowlers_alike (x := none) rfl]; decide
  · rw [freeBowlers_alike (x := some (bowlerOf 1 .waiting)) rfl]; decide

/-- The house in play with squad 48 as given. -/
def squadded (r : SquadRecord) : State := st ((play live).setSquad 48 (some r))

/-- The house in play with bowler 1 as given. -/
def second (b : BowlerRecord) : State := st ((play live).setBowler 1 (some b))

theorem witness_SquadAndBowlerEditsWriteWhatTheyName :
    ((let s := st (paired live (bound (restingOn 47 [1]) 48 .a) (bound (restingOn 48 [384]) 47 .b))
      Edits desk 48 s ∧ s.house.squad 48 = some (bound (restingOn 48 [384]) 47 .b) ∧
        s.house.squad 47 = some (bound (restingOn 47 [1]) 48 .a) ∧ (bound (restingOn 48 [384]) 47 .b).mode = .pairPlay ∧
        (47 : Nat) ≠ 48) ∧
      Edits desk 48 (room (withBall ball)) ∧ ((room (withBall ball)).house.lane 48).delivery.isSome = true ∧
      [384].length ≠ [384, 1].length) ∧
    (Edits desk 48 (room live) ∧ Edits (console 24) 48 (room live)) ∧
      Edits desk 48 (squadded (squadOf 48 [384, 1, 2, 3, 4, 5, 6, 7])) ∧
      (let h := (room live).house
       let r := squadOf 48 [384, 1]
       h.squad 48 = some r ∧ r.order.length < 8 ∧ nameTagFits entryOf.nameTag = true ∧ h.freeBowler = some 2 ∧ r.order.Nodup ∧
         (h.lane r.lane).delivery = none ∧ (∃ k ∈ r.order, k ∉ [1, 2]) ∧ h.bowler 384 = some (bowlerOf 48 .up) ∧
         (bowlerOf 48 .up).squad = 48 ∧ (none : Option (List Byte)).all nameTagFits = true ∧ r.mode = .openPlay) ∧
      [1, 384].Perm [384, 1] ∧
      ((squadded (squadOf 48 [384, 1, 2, 3, 4, 5, 6, 7])).house.squad 48 = some (squadOf 48 [384, 1, 2, 3, 4, 5, 6, 7]) ∧
        8 ≤ (squadOf 48 [384, 1, 2, 3, 4, 5, 6, 7]).order.length) :=
  ⟨⟨⟨⟨sent, by decide⟩, by decide⟩, ⟨sent, by decide⟩, by decide⟩, ⟨⟨sent, by decide⟩, ⟨sent, by decide⟩⟩, ⟨sent, by decide⟩,
    by decide, by decide, by decide⟩

/-- A bowler who has bowled ball 1 of frame 1. -/
def midway : BowlerRecord := { bowlerOf 48 .up with sheet := recordGame [left 512#10] }

/-- A bowler WAITING who is a frame ahead of squad 48. -/
def ahead : BowlerRecord := { bowlerOf 48 .waiting with sheet := recordGame [left noPins] }

/-- Bowler 384 UP and bowler 1 ABSENT: nobody else is left to bowl, and the squad plays one game. -/
def lastUp (l : LaneRecord) : State :=
  st (((play l).setSquad 48 (some { squadOf 48 [384, 1] with autoNext := false })).setBowler 1 (some (bowlerOf 48 .absent)))

/-- Squad 48 STOPPED after squad frame 1, with bowler 384 as given, bowler 1 DONE, and tab 64 as given. -/
def halted (state : BowlerState) (r : TabRecord) : State :=
  st (((((play { live with mode := .held, causes := { CauseSet.none with allowance := true } }).setSquad 48
    (some { squadOf 48 [384, 1] with
      autoNext := false, state := .stopped, stopPoint := some (.atFrame 1), upPosition := none })).setBowler 384
        (some (bowlerOf 48 state))).setBowler 1 (some (bowlerOf 48 .done))).setTab 64 (some r))

theorem witness_AwayBackAndRemovalPassTheRotation :
    (Edits (console 24) 48 (room live) ∧ Edits (console 24) 48 (room (withBall ball)) ∧ Edits desk 48 (room live)) ∧
    Fine (room live) ∧ Fine (second (bowlerOf 48 .done)) ∧ Fine (second (bowlerOf 48 .absent)) ∧
      Fine (squadded (squadOf 48 [384])) ∧ Fine (st ((play live).setBowler 384 (some midway))) ∧ Fine (room (withBall ball)) ∧
      (Edits desk 48 (second ahead) ∧ Edits desk 48 (lastUp live) ∧ Edits desk 48 (lastUp (withCycle .newRack noPins)) ∧
        Edits desk 48 (lastUp { live with deck := .idle }) ∧
        Edits desk 48 (halted .waiting (tabOf [slotOf 48])) ∧ Edits desk 48 (halted .absent spent)) ∧
      (let h := (room live).house
       let r := squadOf 48 [384, 1]
       h.squad 48 = some r ∧ h.bowler 1 = some (bowlerOf 48 .waiting) ∧ (bowlerOf 48 .waiting).squad = 48 ∧
         (bowlerOf 48 .waiting).state ≠ .up ∧ (bowlerOf 48 .waiting).state ≠ .absent ∧ 2 ≤ r.order.length ∧ r.order.Nodup ∧
         1 ∈ r.order ∧ h.bowler 384 = some (bowlerOf 48 .up) ∧ (bowlerOf 48 .up).state = .up ∧
         (bowlerOf 48 .up).inGame = .yes ∧ (h.lane r.lane).delivery = none ∧ (bowlerOf 48 .up).sheet.midFrame = false ∧
         r.order[1]? = some 1 ∧ (r.order.filter (· ≠ 384))[0]? = some 1 ∧ 1 ≠ 384 ∧ h.toBowl r.frame 1 = true ∧
         (∃ j ∈ r.order, j ≠ 1 ∧ h.present j = true ∧ h.bowlerIn .done j = false)) ∧
      (∀ i, i < 1 → ∀ m, (squadOf 48 [384, 1]).order[i]? = some m → m = 384 ∨ (room live).house.toBowl 1 m = false) ∧
      ((second (bowlerOf 48 .done)).house.bowler 1 = some (bowlerOf 48 .done) ∧
        (second (bowlerOf 48 .absent)).house.bowler 1 = some (bowlerOf 48 .absent)) ∧
      ((squadded (squadOf 48 [384])).house.squad 48 = some (squadOf 48 [384]) ∧ (squadOf 48 [384]).order.length ≤ 1) ∧
      ((st ((play live).setBowler 384 (some midway))).house.bowler 384 = some midway ∧ midway.state = .up ∧
        midway.sheet.midFrame = true) ∧
      (((room (withBall ball)).house.lane 48).delivery.isSome = true ∧
        (room (withBall ball)).house.bowler 384 = some (bowlerOf 48 .up)) ∧
      [1, 384].Perm [384, 1] ∧
      (let h := (second ahead).house
       (h.lane 48).deck ≠ .delivery ∧ (h.lane 48).deck ≠ .cycling ∧ (squadOf 48 []).mode = .openPlay ∧
         h.toBowl 1 1 = false ∧ h.toBowl (1 + 1) 1 = true ∧ 1 < 10 ∧ h.runOutOn 48 = false ∧
         (h.lane (otherLane 48)).squad ≠ some 48 ∧ h.bowler 1 = some ahead) ∧
      (let r := { squadOf 48 [384, 1] with autoNext := false }
       (∀ l ∈ [live, withCycle .newRack noPins, { live with deck := .idle }], let h := (lastUp l).house
         h.squad 48 = some r ∧ h.bowler 384 = some (bowlerOf 48 .up) ∧ h.toBowl 1 1 = false ∧ h.present 1 = false) ∧
         r.mode = .openPlay ∧ r.autoNext = false ∧ r.order.Nodup ∧ 384 ∈ r.order ∧
         ((lastUp live).house.lane 48).deck = .ready ∧ ((lastUp live).house.lane 48).standing ≠ noPins ∧
         (lastUp live).house.roomFor 48 ∧ ((lastUp live).house.lane (otherLane 48)).squad ≠ some 48 ∧
         ((lastUp (withCycle .newRack noPins)).house.lane 48).deck = .cycling) ∧
      (let r := { squadOf 48 [384, 1] with
         autoNext := false, state := .stopped, stopPoint := some (.atFrame 1), upPosition := none }
       (let h := (halted .waiting (tabOf [slotOf 48])).house
        h.squad 48 = some r ∧ h.bowler 384 = some (bowlerOf 48 .waiting) ∧ h.present 1 = true ∧ h.bowlerIn .done 1 = true ∧
          (∃ f ∈ numbers 9, r.stopPoint = some (.atFrame f)) ∧ h.runOutOn 48 = false ∧ (h.lane 48).keepsCauses = true ∧
          (h.lane 48).deck ≠ .delivery ∧ (h.lane 48).deck ≠ .cycling) ∧
        let h := (halted .absent spent).house
        h.squad 48 = some r ∧ h.bowler 384 = some (bowlerOf 48 .absent) ∧ h.bowlerIn .done 1 = true ∧
          h.runOutOn 48 = true) := by
  refine ⟨⟨⟨sent, by decide⟩, ⟨sent, by decide⟩, ⟨sent, by decide⟩⟩, fine, fine, fine, fine, fine, fine,
    ⟨⟨sent, by decide⟩, ⟨sent, by decide⟩, ⟨sent, by decide⟩, ⟨sent, by decide⟩, ⟨sent, by decide⟩, ⟨sent, by decide⟩⟩,
    by decide, ?_, by decide, by decide, by decide, by decide, by decide, by decide, by decide, by decide⟩
  intro i hi m hm
  obtain rfl : i = 0 := by omega
  exact .inl (by simpa [squadOf] using hm.symm)

/-- The house in play with its squad between games, and tab 64 as given. -/
def formed (r : TabRecord) : House :=
  ((play live).setSquad 48 (some { squadOf 48 [384, 1] with state := .forming, upPosition := none })).setTab 64 (some r)

/-- The pair with its squads bound and between games, lane 47 IDLE, and tab 64 as given. -/
def boundOn (r : TabRecord) : State :=
  st ((paired { live with deck := .idle } (bound (restingOn 47 [1]) 48 .a) (bound (restingOn 48 [384]) 47 .b)).setTab 64
    (some r))

theorem witness_StartGameChargesAndStarts :
    (Sent (console 24) (st (formed (tabOf [slotOf 48]))) ∧ (console 24).origin = .console (pairOf 48)) ∧
    Fine (st (formed (tabOf [slotOf 48]))) ∧ Fine (st (formed { tabOf [slotOf 48] with allowance := .games 4 })) ∧
      Fine (st ((formed (tabOf [slotOf 48])).setLane 48 { live with deck := .idle })) ∧
      Fine (boundOn (tabOf [slotOf 47, slotOf 48])) ∧ Fine (boundOn { tabOf [slotOf 47, slotOf 48] with allowance := .games 4 }) ∧
      (let h := (st (formed (tabOf [slotOf 48]))).house
       let r := { squadOf 48 [384, 1] with state := .forming, upPosition := none }
       isLane 48 = true ∧ (h.lane 48).playing = true ∧ (h.lane 48).causesFit = true ∧ (h.lane 48).squad = some 48 ∧
         h.squad 48 = some r ∧ r.lane = 48 ∧
         r.mode = .openPlay ∧ r.inProgress = false ∧ r.order.Nodup ∧ (∀ k ∈ r.order, (h.bowler k).isSome = true) ∧
         r.order.findIdx? h.present = some 0 ∧ (h.lane 48).deck = .ready ∧ (h.lane 48).standing = fullRack ∧
         (h.lane 48).tab = some 64 ∧ h.tab 64 = some (tabOf [slotOf 48]) ∧ (r.order.filter h.present).length = 2 ∧
         (tabOf [slotOf 48]).startRefused 2 = false ∧ (tabOf [slotOf 48]).gameCharges.amount ≤ 9999999) ∧
      (let rt := { tabOf [slotOf 48] with allowance := .games 4 }
       (st (formed rt)).house.tab 64 = some rt ∧ rt.startRefused 2 = true) ∧
      (let h := (st ((formed (tabOf [slotOf 48])).setLane 48 { live with deck := .idle })).house
       (h.lane 48).deck = .idle ∧ h.roomFor 48) ∧
      (let r := bound (restingOn 48 [384]) 47 .b
       let rp := bound (restingOn 47 [1]) 48 .a
       (∀ rt ∈ [tabOf [slotOf 47, slotOf 48], { tabOf [slotOf 47, slotOf 48] with allowance := .games 4 }],
         let h := (boundOn rt).house
         (h.lane 48).playing = true ∧ (h.lane 48).squad = some 48 ∧ h.squad 48 = some r ∧ h.squad 47 = some rp ∧
           (∀ k ∈ r.order ++ rp.order, (h.bowler k).isSome = true) ∧ r.order.findIdx? h.present = some 0 ∧
           rp.order.findIdx? h.present = some 0 ∧
           (∀ m ∈ [48, rp.lane], (h.lane m).deck ≠ .delivery ∧ (h.lane m).deck ≠ .cycling) ∧ (h.lane 48).tab = some 64 ∧
           (h.lane rp.lane).tab = some 64 ∧ h.tab 64 = some rt ∧ rt.gameCharges.amount ≤ 9999999 ∧
           rt.startRefused ((r.order.filter h.present).length + (rp.order.filter h.present).length) =
             decide (rt.allowance = .games 4) ∧
           (h.lane 47).deck = .idle ∧ h.modulePresent 47 = true ∧ (h.slot (pairOf 47)).orders.length ≤ 6 ∧
           (h.lane rp.lane).keepsCauses = true) ∧
         r.lane = 48 ∧ r.mode = .pairPlay ∧ r.partner = some 47 ∧ rp.mode = .pairPlay ∧ rp.partner = some 48 ∧
         isLane rp.lane = true ∧ rp.lane ≠ 48 ∧ r.inProgress = false ∧ rp.inProgress = false ∧ r.order.Nodup ∧
         rp.order.Nodup ∧ ∀ k ∈ r.order, k ∉ rp.order) :=
  ⟨⟨sent, rfl⟩, fine, fine, fine, fine, fine, by decide, by decide, by decide, by decide, by decide⟩

/-- A bowler of a finished game with its total. -/
def finished : BowlerRecord :=
  { bowlerOf 48 .done with sheet := workedGame, totals := [{ total := 212, incomplete := false }] }

/-- Open play at the end of a squad frame: squad 48 at a frame, with its bowlers 384 and 1 as given, and tab 64 as given. -/
def frameEnd (frame : Nat) (auto : Bool) (a b : BowlerRecord) (r : TabRecord) : House :=
  ((((play live).setSquad 48 (some { squadOf 48 [384, 1] with frame := frame, autoNext := auto, upPosition := none })).setBowler
    384 (some a)).setBowler 1 (some b)).setTab 64 (some r)

theorem witness_SquadFramesAndGamesEnd :
    (let h := play (withBall ball)
     isLane 48 = true ∧ (h.lane 48).delivery = some ball ∧ h.bowler 384 = some (bowlerOf 48 .up) ∧
       h.squad 48 = some (squadOf 48 [384, 1]) ∧
       ((bowlerOf 48 .up).sheet.record ball.before noPins ball.foul ball.speed).2 = true ∧
       ((play { withBall ball with recoveryOwed := true }).lane 48).recoveryOwed = true) ∧
      (let h := frameEnd 1 true ahead (bowlerOf 48 .waiting) (tabOf [slotOf 48])
       let r := { squadOf 48 [384, 1] with upPosition := none }
       h.squad 48 = some r ∧ r.mode = .openPlay ∧ r.order[1]? = some 1 ∧ h.bowler 1 = some (bowlerOf 48 .waiting) ∧
         h.toBowl 1 1 = true ∧ h.toBowl 1 384 = false) ∧
      (∀ rt ∈ [tabOf [slotOf 48], spent], let h := frameEnd 1 true ahead ahead rt
       (∀ j ∈ [384, 1], h.toBowl 1 j = false ∧ h.toBowl (1 + 1) j = true ∧ h.present j = true ∧ h.bowlerIn .done j = false) ∧
         h.runOutOn 48 = rt.runOut) ∧
      (∀ auto ∈ [false, true],
        ∀ rt ∈ [tabOf [slotOf 48], { tabOf [slotOf 48] with allowance := .games 4 }, spent],
        let h := frameEnd 10 auto finished finished rt
        (h.squad 48).map (fun r => (r.frame, r.autoNext, r.order)) = some (10, auto, [384, 1]) ∧
          (∀ j ∈ [384, 1], h.toBowl 10 j = false ∧ h.present j = true ∧ h.bowlerIn .done j = true) ∧
          h.runOutOn 48 = rt.runOut ∧ (h.lane 48).tab = some 64 ∧ h.tab 64 = some rt ∧ rt.gameCharges.amount ≤ 9999999 ∧
          ([384, 1].filter h.present).length = 2 ∧ rt.startRefused 2 = (rt.runOut || decide (rt.allowance = .games 4)) ∧
          [384, 1].findIdx? h.present = some 0 ∧ (h.lane 48).keepsCauses = true) :=
  ⟨by decide, by decide, by decide, by decide⟩

theorem witness_PairPlayBindsAndUnbinds :
    Fine (st (paired live (restingOn 47 [1]) (restingOn 48 [384]))) ∧
      Fine (st (paired { live with tab := none } (restingOn 47 [1]) (restingOn 48 [384]))) ∧
      Fine (st (paired live (bound (restingOn 47 [1]) 48 .a) (bound (restingOn 48 [384]) 47 .b))) ∧
      Fine (st (paired live (bound (squadOf 47 [1]) 48 .a) (bound (squadOf 48 [384]) 47 .b))) ∧
      (let h := (st (paired live (restingOn 47 [1]) (restingOn 48 [384]))).house
       isPair 24 = true ∧ (h.lane 47).squad = some 47 ∧ (h.lane 48).squad = some 48 ∧ h.squad 47 = some (restingOn 47 [1]) ∧
         h.squad 48 = some (restingOn 48 [384]) ∧ (h.lane 47).mode ≠ .out ∧ (h.lane 48).mode ≠ .out ∧
         (h.lane 47).tab.isSome = true ∧ (h.lane 47).tab = (h.lane 48).tab ∧ (restingOn 47 [1]).mode = .openPlay ∧
         (restingOn 48 [384]).mode = .openPlay ∧ (restingOn 47 [1]).inProgress = false ∧
         (restingOn 48 [384]).inProgress = false) ∧
      (let h := (st (paired { live with tab := none } (restingOn 47 [1]) (restingOn 48 [384]))).house
       (h.lane 47).tab ≠ (h.lane 48).tab) ∧
      (let ra := bound (restingOn 47 [1]) 48 .a
       let rb := bound (restingOn 48 [384]) 47 .b
       ra.mode = .pairPlay ∧ ra.partner = some 48 ∧ rb.mode = .pairPlay ∧ rb.partner = some 47 ∧ ra.inProgress = false ∧
         rb.inProgress = false ∧ (bound (squadOf 47 [1]) 48 .a).inProgress = true) :=
  ⟨fine, fine, fine, fine, by decide⟩

/-- The pair at the end of squad 48's frame: squad 48 at a frame, squad 47 as given, the sheets of both, and tab 64. -/
def pairEnd (frame : Nat) (auto : Bool) (rp : SquadRecord) (a b : BowlerRecord) (r : TabRecord) : House :=
  (((paired { live with deck := .idle } (bound rp 48 .a)
    { bound (squadOf 48 [384]) 47 .b with frame := frame, autoNext := auto, upPosition := none }).setBowler 384
      (some a)).setBowler 1 (some b)).setTab 64 (some r)

theorem witness_PairsWaitSwapStopAndEndTheirGames :
    (let h := swapping
     let rq := { bound (squadOf 48 [384]) 47 .b with frame := 9 }
     let rp := { bound (squadOf 47 [1]) 48 .a with frame := 9, state := .frameWait, upPosition := none }
     48 ≠ 47 ∧ h.squad 48 = some rq ∧ h.squad 47 = some rp ∧ rq.mode = .pairPlay ∧ rq.partner = some 47 ∧ rq.frame < 10 ∧
       h.nextUp rq = none ∧ h.runOutOn rq.lane = false ∧ rp.state = .frameWait ∧ rp.frame = rq.frame ∧ isLane rq.lane = true ∧
       isLane rp.lane = true ∧ rq.lane ≠ rp.lane ∧ h.nextUp { rq with frame := rq.frame + 1 } = some 0 ∧
       h.nextUp { rp with frame := rp.frame + 1 } = some 0 ∧ rq.order[0]? = some 384 ∧ rp.order[0]? = some 1 ∧
       1 ∉ rq.order ∧ 384 ∉ rp.order ∧ (h.bowler 384).isSome = true ∧ (h.bowler 1).isSome = true) ∧
      (∀ rt ∈ [tabOf [slotOf 47, slotOf 48], spent],
        ∀ rp ∈ [squadOf 47 [1], { squadOf 47 [1] with frame := 9, state := .frameWait, upPosition := none }],
        let h := pairEnd 9 true rp { bowlerOf 48 .waiting with sheet := strikes 9 }
          { bowlerOf 47 .waiting with sheet := strikes 9 } rt
        (h.squad 48).map (fun r => (r.mode, r.partner, r.frame, r.order)) = some (.pairPlay, some 47, 9, [384]) ∧
          h.squad 47 = some (bound rp 48 .a) ∧ h.toBowl 9 384 = false ∧ h.runOutOn 48 = rt.runOut ∧
          (h.lane 48).keepsCauses = true) ∧
      (∀ auto ∈ [false, true],
        ∀ rt ∈ [tabOf [slotOf 47, slotOf 48], { tabOf [slotOf 47, slotOf 48] with allowance := .games 4 }],
        ∀ rp ∈ [squadOf 47 [1], { restingOn 47 [1] with state := .gameDone, frame := 10 },
            { squadOf 47 [1] with frame := 10, state := .frameWait, upPosition := none }],
        let h := pairEnd 10 auto rp { finished with squad := 48 } { finished with squad := 47 } rt
        (h.squad 48).map (fun r => (r.frame, r.autoNext, r.order)) = some (10, auto, [384]) ∧
          h.squad 47 = some (bound rp 48 .a) ∧ h.toBowl 10 384 = false ∧ (h.lane 48).tab = some 64 ∧
          (h.lane 47).tab = some 64 ∧ h.tab 64 = some rt ∧ rt.gameCharges.amount ≤ 9999999 ∧ h.runOutOn 48 = false ∧
          h.runOutOn 47 = false ∧ [384].findIdx? h.present = some 0 ∧ [1].filter h.present = [1] ∧
          h.declinesNeed 47 = false ∧ (h.lane 47).deck = .idle ∧ h.roomFor 47 ∧
          rt.startRefused 2 = decide (rt.allowance = .games 4)) := by
  refine ⟨by decide, by decide, by decide⟩

/-- A bowler who has bowled 9 and then missed, and is at frame 2. -/
def corrected : BowlerRecord := { bowlerOf 48 .up with sheet := recordGame [left 512#10, left 512#10] }

/-- A bowler UP at frame 1 whose record keeps two balls and no end: no run comes to it, and a strike leaves the second ball
no place. -/
def overfull : BowlerRecord :=
  { bowlerOf 48 .up with
    sheet := Sheet.blank.setFrame 1 { Sheet.blank.frame 1 with balls := [left 512#10, left 512#10] } }

theorem witness_CorrectBallRescoresTheGame :
    (Fine (st ((play live).setBowler 384 (some overfull))) ∧
      (let b := overfull
       b.state = .up ∧ b.sheet.current = 1 ∧ (b.sheet.frame 1).kind = none ∧
         (b.sheet.ball 1 1).map (·.before) = some fullRack ∧ noPins &&& ~~~fullRack = noPins ∧
         (b.sheet.correct 1 1 noPins false).rescore (some 1) = none)) ∧
    Fine (st ((play live).setBowler 384 (some corrected))) ∧
      Fine (st (((play live).setSquad 48 (some (restingOn 48 [384, 1]))).setBowler 384 (some finished))) ∧
      Fine (st ((play live).setBowler 384 (some midway))) ∧
      Fine (st ((play (withBall ball)).setBowler 384 (some midway))) ∧
      (Sent (console 24) (st ((play live).setBowler 384 (some midway))) ∧
        ((st ((play live).setBowler 384 (some midway))).house.lane 48).options.consoleCorrections = true) ∧
      (let b := corrected
       (st ((play live).setBowler 384 (some corrected))).house.bowler 384 = some b ∧
         (st ((play live).setBowler 384 (some corrected))).house.squad b.squad = some (squadOf 48 [384, 1]) ∧
         (b.sheet.ball 1 2).map (·.before) = some 512#10 ∧ 1#10 &&& ~~~(512#10 : PinSet) ≠ noPins ∧
         noPins &&& ~~~(512#10 : PinSet) = noPins ∧
         b.sheet.current ≠ 1 ∧ (b.sheet.correct 1 2 noPins false).rescore none = none ∧
         (b.sheet.correct 1 1 513#10 false).rescore none ≠ none ∧ 513#10 &&& ~~~fullRack = noPins ∧ (squadOf 48 []).inProgress = true ∧ b.inGame ≠ .no) ∧
      (let b := finished
       (b.sheet.ball 10 3).map (fun o => (o.before, o.after)) = some (fullRack, pinsAt [7, 10]) ∧
         noPins &&& ~~~fullRack = noPins ∧
         ¬(b.state = .up ∧ b.sheet.current = 10 ∧ (b.sheet.frame 10).kind = none) ∧
         (b.sheet.correct 10 3 noPins false).rescore none ≠ none ∧
         b.totals.getLast? = some { total := 212, incomplete := false } ∧ 1 ≤ b.gameNumber ∧
         (restingOn 48 []).inProgress = false) ∧
      (let b := midway
       b.state = .up ∧ b.sheet.current = 1 ∧ (b.sheet.frame 1).kind = none ∧
         (b.sheet.ball 1 1).map (·.before) = some fullRack ∧ 3#10 &&& ~~~fullRack = noPins ∧
         ((b.sheet.correct 1 1 3#10 false).rescore (some 1)).map (fun t => (t.frame 1).kind) = some none ∧
         live.deckFits = true ∧ ((room live).house.lane 48).delivery = none ∧ ((room live).house.lane 48).cycle = none ∧
         ((room (withBall ball)).house.lane 48).delivery.isSome = true) ∧
      (let ended := (midway.sheet.correct 1 1 noPins false).rescore (some 1)
       (ended.bind fun t => (t.frame 1).kind) = some .strike ∧ noPins &&& ~~~fullRack = noPins ∧
         (squadOf 48 [384, 1]).inProgress = true ∧ (squadOf 48 [384, 1]).order[1]? = some 1 ∧ 1 ≠ 384 ∧
         (let u := ((st ((play live).setBowler 384 (some midway))).house.setBowler 384
            (ended.map fun t => { midway with sheet := t, state := .waiting }))
          u.toBowl 1 1 = true ∧ u.toBowl 1 384 = false)) := by
  refine ⟨⟨fine, ?_⟩, fine, fine, fine, fine, ⟨sent, by decide⟩, ?_, ?_, ?_, ?_⟩ <;> decide

theorem witness_ReturnsAreClearedTimedCountedBackAndJammed :
    (Sent desk (room live) ∧ Sent (station 4) (room live) ∧ Sent (console 24) (room live) ∧
      (∀ c, (station 4).origin ≠ .console c) ∧ (∀ c, desk.origin ≠ .console c) ∧
      (isPair 0 = false ∧ isPair 25 = false ∧ isPair 24 = true ∧ isPair 1 = true ∧ (console 24).origin = .console 24 ∧
        desk.origin = .desk ∧ (station 4).origin ≠ .desk)) ∧
      Runs (room live) ∧ Runs (returning [⟨48, 4999⟩] (some 5399) none) ∧
      Runs (returning [⟨47, 4600⟩, ⟨48, 4601⟩] (some 5000) none) ∧
      Runs (returning [⟨47, 4500⟩, ⟨48, 4600⟩] (some 5001) none) ∧ Runs (returning [⟨48, 4600⟩] none (some .full)) ∧
      (let h := (room live).house
       isPair 24 = true ∧ (h.slot 24).present = true ∧ (h.ret 24).outstanding = [] ∧ (h.ret 24).jam = none) ∧
      (let h := (returning [⟨48, 4999⟩] (some 5399) none).house
       (h.ret 24).outstanding ≠ [] ∧ (h.ret 24).outstanding.tail = []) ∧
      (let h := (returning [⟨47, 4600⟩, ⟨48, 4601⟩] (some 5000) none).house
       (h.slot 24).present = true ∧ (h.ret 24).outstanding ≠ [] ∧ (h.ret 24).outstanding.tail.head? = some ⟨48, 4601⟩ ∧
         (h.ret 24).jam = none ∧ h.clock.timebase < 4601 + 40 * 10 ∧ (h.ret 24).deadline = some 5000 ∧
         5000 ≤ h.clock.timebase) ∧
      (let h := (returning [⟨47, 4500⟩, ⟨48, 4600⟩] (some 5001) none).house
       (h.ret 24).outstanding.tail.head? = some ⟨48, 4600⟩ ∧ (h.ret 24).jam = none ∧ 4600 + 40 * 10 ≤ h.clock.timebase ∧
         (h.ret 24).deadline = some 5001 ∧ h.clock.timebase < 5001) ∧
      (let h := (returning [⟨48, 4600⟩] none (some .full)).house
       (h.slot 24).present = true ∧ (h.ret 24).outstanding ≠ [] ∧ (h.ret 24).jam.isSome = true) :=
  ⟨⟨sent, sent, sent, (fun _ h => by cases h), (fun _ h => by cases h), by decide⟩,
    runs, runs, runs, runs, runs, by decide⟩

/-- A house with a full queue of lane 1's calls, whose numbers end at 999. -/
def full : House :=
  queued (play live) ((numbers 32).map fun k => callOf (967 + k) k .machineJam 3 none)

/-- The house with a kind of lane 48 in its unqueued set. -/
def waitingFor (k : CallKind) (h : House) : House :=
  h.setUnqueued 48 { h.unqueued 48 with kinds := (h.unqueued 48).kinds.set k.place true }

theorem witness_RaisedCallsEnterOrRepeat :
    (isLane 48 = true ∧ isLane 1 = true ∧ CallKind.assist ≠ .returnJam ∧ CallKind.machineJam ≠ .returnJam) ∧
      (queued (play live) [callOf 999 48 .assist 1 none]).calls.find 48 .assist = some (callOf 999 48 .assist 1 none) ∧
      (full.calls.find 48 .assist = none ∧ ((waitingFor .assist full).unqueued 48).has .assist = true) ∧
      (let h := queued (play live) ((numbers 31).map fun k => callOf (968 + k) k .machineJam 3 none)
       h.calls.find 48 .assist = none ∧ (h.unqueued 48).has .assist = false ∧ h.calls.queue.length < 32 ∧
         h.calls.lastNumber ≤ 999) ∧
      ((full.unqueued 48).has .assist = false ∧ 32 ≤ full.calls.queue.length) ∧
      (isBlocking .assist = false ∧ isBlocking .machineJam = true ∧ (play live).blocked 48 = false ∧
        ((play live).lane 48).keepsCauses = true ∧ ((play live).lane 48).causesFit = true ∧
        ((play live).lane 48).mode ≠ .warming) ∧
      (let h := (play live).setLane 47 (withBall ball)
       isBlocking .returnJam = true ∧ 2 * pairOf 48 - 1 = 47 ∧ 2 * pairOf 48 = 48 ∧ h.calls.find 47 .returnJam = none ∧
         (h.unqueued 47).has .returnJam = false ∧ h.calls.queue.length < 32 ∧
         ∀ x ∈ [47, 48], h.blocked x = false ∧ (h.lane x).keepsCauses = true ∧ (h.lane x).causesFit = true ∧
           (h.lane x).mode ≠ .warming) ∧
      (queued (play live) [callOf 999 47 .returnJam 2 none]).calls.find 47 .returnJam = some (callOf 999 47 .returnJam 2 none) := by
  decide

theorem witness_AssistAndDeskCallAreAnswered :
    Sent desk (room live) ∧ Sent (console 24) (room live) ∧ Sent (console 23) (room live) ∧ Sent desk (st full) ∧
      Sent (console 24) (st (waitingFor .assist full)) ∧
      Sent desk (st (queued (play live) [callOf 999 48 .desk 0 none])) ∧
      (isLane 0 = false ∧ isLane 49 = false ∧ isLane 48 = true ∧ (console 23).origin ≠ .desk ∧
        (console 23).origin ≠ .console (pairOf 48) ∧ (console 24).origin = .console (pairOf 48)) ∧
      (let h := (room live).house
       h.calls.find 48 .assist = none ∧ (h.unqueued 48).has .assist = false ∧ h.calls.queue.length < 32 ∧
         h.calls.find 48 .desk = none ∧ (h.unqueued 48).has .desk = false) ∧
      ((st full).house.calls.find 48 .desk = none ∧ 32 ≤ (st full).house.calls.queue.length) ∧
      ((st (waitingFor .assist full)).house.unqueued 48).has .assist = true ∧
      (st (queued (play live) [callOf 999 48 .desk 0 none])).house.calls.find 48 .desk = some (callOf 999 48 .desk 0 none) :=
  ⟨sent, sent, sent, sent, sent, sent, by decide⟩

theorem witness_ClassMapAndDispatchAreWritten :
    Sent desk (room live) ∧ Sent (console 24) (room live) ∧
      (desk.origin = .desk ∧ (console 24).origin ≠ .desk ∧
        (let all : List (CallKind × Nat) := [(.desk, 4), (.assist, 0), (.ballInPit, 1), (.machineJam, 3), (.cycleTimeout, 2),
           (.setFail, 255), (.readerFail, 2), (.returnJam, 2), (.wakeFail, 1)]
         (all.map fun e => e.1.place.val).Nodup) ∧
        ([(none, 1)] : List (Option CallKind × Nat)).any (fun e => e.1.isNone) = true) := ⟨sent, sent, by decide⟩

/-- The house in play with calls in its queue and the credits given. -/
def credited (calls : List CallRecord) (credits : Vector Nat 4) : State :=
  let h := queued (play live) calls
  st { h with calls := { h.calls with credits := credits } }

theorem witness_NextCallFollowsTheDispatchSettings :
    Sent (console 24) (room live) ∧ Sent desk (room live) ∧ (isConsole (console 24).origin = true ∧ 0 < 1 ∧ 4 < 5) ∧
      Sent (station 4) (credited [callOf 1 1 .assist 1 (some 4), callOf 2 1 .desk 0 (some 4)] #v[0, 0, 0, 0]) ∧
      Sent desk (credited [callOf 1 1 .assist 1 (some 4)] #v[0, 0, 0, 0]) ∧
      Sent (station 4) (credited [callOf 1 1 .assist 1 none, callOf 2 48 .machineJam 3 none] #v[0, 0, 0, 0]) ∧
      Sent (station 4) (credited [callOf 1 1 .assist 1 none, callOf 2 48 .setFail 2 none] #v[1, 2, 0, 0]) ∧
      Sent (station 4) (credited [callOf 1 1 .assist 1 none, callOf 2 48 .setFail 2 none] #v[0, 0, 0, 0]) ∧
      ((station 4).origin = .station 4 ∧ desk.origin = .desk ∧ 1 ≤ 4 ∧ 4 ≤ 4) ∧
      (let q := (credited [callOf 1 1 .assist 1 (some 4), callOf 2 1 .desk 0 (some 4)] #v[0, 0, 0, 0]).house.calls
       2 ≤ (numGet q.stations [] 4).length) ∧
      (let q := (credited [callOf 1 1 .assist 1 (some 4)] #v[0, 0, 0, 0]).house.calls
       (numGet q.stations [] 4).length < 2 ∧ ∀ r ∈ q.queue, r.station.isSome = true) ∧
      (let q := (credited [callOf 1 1 .assist 1 none, callOf 2 48 .machineJam 3 none] #v[0, 0, 0, 0]).house.calls
       let oldest := fun (c : Fin 4) => q.queue.find? fun r => r.station.isNone && decide (r.callClass = c.val)
       q.dispatch[(3 : Fin 4)] = .strict ∧ oldest 3 = some (callOf 2 48 .machineJam 3 none) ∧
         ∀ d : Fin 4, 3 < d → q.dispatch[d] = .strict → oldest d = none) ∧
      (let q := (credited [callOf 1 1 .assist 1 none, callOf 2 48 .setFail 2 none] #v[1, 2, 0, 0]).house.calls
       let oldest := fun (c : Fin 4) => q.queue.find? fun r => r.station.isNone && decide (r.callClass = c.val)
       (∀ d : Fin 4, q.dispatch[d] = .strict → oldest d = none) ∧ q.dispatch[(1 : Fin 4)] ≠ .strict ∧
         oldest 1 = some (callOf 1 1 .assist 1 none) ∧ 0 < q.credits[(1 : Fin 4)] ∧
         ∀ d : Fin 4, 1 < d → q.dispatch[d] ≠ .strict → 0 < q.credits[d] → oldest d = none) ∧
      (let q := (credited [callOf 1 1 .assist 1 none, callOf 2 48 .setFail 2 none] #v[0, 0, 0, 0]).house.calls
       let oldest := fun (c : Fin 4) => q.queue.find? fun r => r.station.isNone && decide (r.callClass = c.val)
       let ratio := fun (c : Fin 4) => match q.dispatch[c] with
         | .ratio n => n
         | .strict => 0
       (∀ d : Fin 4, q.dispatch[d] = .strict → oldest d = none) ∧
         (∀ d : Fin 4, q.dispatch[d] ≠ .strict → 0 < q.credits[d] → oldest d = none) ∧
         (∀ d : Fin 4, q.dispatch[d] ≠ .strict → 1 ≤ ratio d) ∧ q.dispatch[(2 : Fin 4)] ≠ .strict ∧
         oldest 2 = some (callOf 2 48 .setFail 2 none) ∧ ∀ d : Fin 4, 2 < d → oldest d = none) :=
  ⟨sent, sent, by decide, sent, sent, sent, sent, sent, by decide⟩

/-- A lane held by a call. -/
def called : LaneRecord := heldBy { CauseSet.none with call := true }

theorem witness_CallsAreReturnedAndCleared :
    (Sent (station 4) (st (queued (play live) [callOf 999 48 .assist 1 (some 4)])) ∧
      Sent (station 3) (st (queued (play live) [callOf 999 48 .assist 1 (some 4)])) ∧ isConsole (station 4).origin = false ∧
      (station 3).origin ≠ .station 4 ∧ (callOf 999 48 .assist 1 (some 4)).clearableBy (station 4).origin ∧
      (callOf 999 48 .assist 1 (some 4)).clearableBy desk.origin) ∧
    (Sent (station 4) (st (waitingFor .assist full)) ∧ (st (waitingFor .assist full)).house.calls.find 48 .assist = none ∧
      ((st (waitingFor .assist full)).house.unqueued 48).has .assist = true) ∧
    (Fine (st (queued (play live) [callOf 999 48 .wakeFail 1 none])) ∧ Fine wakeFailed ∧
      (callOf 999 48 .wakeFail 1 none).clearableBy (station 3).origin ∧
      ((st (queued (play live) [callOf 999 48 .wakeFail 1 none])).house.lane 48).mode ≠ .warming ∧
      wakeFailed.house.calls.numbered 999 = some (callOf 999 48 .wakeFail 1 none) ∧
      (wakeFailed.house.lane 48).mode = .warming ∧ wakeFailed.house.roomFor 48 ∧ wakeFailed.house.nextUnqueued = none) ∧
    Fine (st (queued (play live) [callOf 999 48 .assist 1 (some 4)])) ∧ Fine (st (queued (play live) [callOf 1 48 .desk 0 none])) ∧
      Fine (st (queued (play called) [callOf 999 47 .returnJam 2 none])) ∧
      (let h := (st (queued (play live) [callOf 999 48 .assist 1 (some 4)])).house
       h.calls.find 48 .assist = some (callOf 999 48 .assist 1 (some 4)) ∧
         h.calls.numbered 998 = none ∧ h.calls.numbered 999 = some (callOf 999 48 .assist 1 (some 4)) ∧
         (callOf 999 48 .assist 1 (some 4)).station.isSome = true ∧ (callOf 999 48 .assist 1 (some 4)).kind = .assist ∧
         h.nextUnqueued = none) ∧
      (let h := (st (queued (play live) [callOf 1 48 .desk 0 none])).house
       h.calls.numbered 1 = some (callOf 1 48 .desk 0 none) ∧ (callOf 1 48 .desk 0 none).station = none) ∧
      (let h := (st (queued (play called) [callOf 999 47 .returnJam 2 none])).house
       h.calls.numbered 999 = some (callOf 999 47 .returnJam 2 none) ∧ isLane 47 = true ∧
         h.calls.find (2 * pairOf 48 - 1) .returnJam = some (callOf 999 47 .returnJam 2 none)) :=
  ⟨⟨sent, sent, by decide⟩, ⟨sent, by decide⟩, ⟨fine, fine, by decide⟩, fine, fine, fine, by decide⟩

/-- What BlockingCallsClearAndPlacesFill asks of a lane whose last blocking kind goes, where the house that is left is `u`. -/
abbrev Freed (h u : House) (n : Nat) : Prop :=
  u.blocked n = false ∧ (h.lane n).playing = true ∧ (h.lane n).mode = .held ∧ (h.lane n).causes.link = false ∧
    (h.lane n).causes.restart = false ∧ (h.lane n).delivery = none ∧ h.modulePresent n = true ∧
    (h.slot (pairOf n)).orders.length ≤ 6

theorem witness_BlockingCallsClearAndPlacesFill :
    (Sent desk (st (queued (play called) [callOf 999 48 .machineJam 3 none])) ∧
      Sent (station 4) (st (queued ((play called).setLane 47 called) [callOf 999 47 .returnJam 2 (some 4)])) ∧
      Sent desk (st (waitingFor .machineJam full)) ∧ isConsole desk.origin = false ∧ isConsole (station 4).origin = false ∧
      (callOf 999 48 .machineJam 3 none).clearableBy desk.origin ∧
      (callOf 999 47 .returnJam 2 (some 4)).clearableBy (station 4).origin) ∧
      (let h := (st (queued (play called) [callOf 999 48 .machineJam 3 none])).house
       h.calls.numbered 999 = some (callOf 999 48 .machineJam 3 none) ∧ isLane 48 = true ∧ h.nextUnqueued = none ∧
         Freed h (h.removeCall 999) 48) ∧
      (let h := (st (queued ((play called).setLane 47 called) [callOf 999 47 .returnJam 2 (some 4)])).house
       h.calls.numbered 999 = some (callOf 999 47 .returnJam 2 (some 4)) ∧ h.nextUnqueued = none ∧
         47 = 2 * pairOf 47 - 1 ∧ Freed h (h.removeCall 999) 47 ∧ Freed h (h.removeCall 999) 48) ∧
      (let h := (st (waitingFor .machineJam full)).house
       h.nextUnqueued = some (48, .machineJam) ∧ h.calls.numbered 999 = some (callOf 999 32 .machineJam 3 none) ∧
         (h.calls.queue.filter fun x => x.number ≠ 999).length = 31 ∧ h.calls.lastNumber ≤ 999) ∧
      (let h := (st (waitingFor .machineJam (queued (play called) full.calls.queue))).house
       h.calls.find 48 .machineJam = none ∧ (h.unqueued 48).has .machineJam = true ∧
         Freed h (h.setUnqueued 48 ((h.unqueued 48).leave .machineJam)) 48) :=
  ⟨⟨sent, sent, sent, by decide⟩, by decide, by decide, by decide, by decide⟩

theorem witness_PlansAreSetAndCleared :
    Fine (room live) ∧ Fine (st evening) ∧ (8 ≤ 8 ∧ 7 < 8 ∧ 0 < 8) ∧
      (let five := (numbers 5).map fun k => (⟨k, 0⟩ : Band)
       4 < five.length ∧ (∃ b ∈ [(⟨1440, 0⟩ : Band)], 1439 < b.start) ∧
         ¬([(⟨600, 1⟩ : Band), ⟨600, 2⟩].map (·.start)).Nodup) ∧
      (let four : List Band := [⟨1439, 100000⟩, ⟨0, 1⟩, ⟨600, 2⟩, ⟨601, 99999⟩]
       four ≠ [] ∧ four.length ≤ 4 ∧ (∀ b ∈ four, b.start ≤ 1439) ∧ (four.map (·.start)).Nodup) ∧
      ((room live).house.planInUse 7 = true ∧ (st evening).house.planInUse 7 = false) :=
  ⟨fine, fine, by decide⟩

/-- The evening's house with every tab in use. -/
def tabless : State := st { evening with tabs := Vector.replicate 64 (some (tabOf [])) }

/-- The evening's house with every module absent, and the tab given. -/
def moduleless (r : Option TabRecord) : State := st { evening.setTab 64 r with machine := MachinePort.cold }

theorem fine_moduleless (r : Option TabRecord) : Fine (moduleless r) := by
  refine ⟨quiet_st (h := { evening.setTab 64 r with machine := MachinePort.cold }) ?_, (fine (h := evening)).2.1, rfl⟩
  have fits : House.cold.slotsFit := by decide
  exact fun p hp => fits p hp

theorem witness_TabsOpenAndLanesAttach :
    Fine (st { evening with clock := { evening.clock with isSet := false } }) ∧ Fine (st evening) ∧ Fine tabless ∧
      Fine (moduleless none) ∧ Fine (moduleless (some (tabOf []))) ∧
      Fine (tabbed (tabOf [])) ∧ Fine (tabbed (tabOf [{ slotOf 48 with attached := false, condition := none }])) ∧
      Fine (tabbed (tabOf [{ slotOf 1 with attached := false, condition := none }])) ∧ Fine (tabbed dueTab) ∧
      Fine (room live) ∧
      ((st { evening with clock := { evening.clock with isSet := false } }).house.clock.isSet = false ∧ 7 < 8) ∧
      (∀ n, (some 48 : Option Nat) = some n → isLane n = true) ∧
      (tabless.house.clock.isSet = true ∧ tabless.house.freeTab = none) ∧
      (∀ h ∈ [(st evening).house, (moduleless none).house],
        h.clock.isSet = true ∧ h.freeTab = some 1 ∧ h.plan 7 = some timePlan ∧ isLane 48 = true ∧
         (h.lane 48).mode = .dark ∧ (h.lane 48).tab = none) ∧
      ((st evening).house.modulePresent 48 = true ∧ (moduleless none).house.modulePresent 48 = false) ∧
      ((room live).house.lane 48).mode ≠ .dark ∧
      (∀ r ∈ [tabOf [], tabOf [{ slotOf 48 with attached := false, condition := none }]],
        (tabbed r).house.tab 64 = some r ∧ r.state = .opened ∧ ((tabbed r).house.lane 48).mode = .dark ∧
          ((tabbed r).house.lane 48).tab = none ∧ (tabbed r).house.plan r.plan = some timePlan ∧
          ∀ m ∈ r.slots, pairOf m.lane = pairOf 48) ∧
      (let h := (moduleless (some (tabOf []))).house
       h.tab 64 = some (tabOf []) ∧ (h.lane 48).mode = .dark ∧ (h.lane 48).tab = none ∧ h.modulePresent 48 = false) ∧
      (let r := tabOf [{ slotOf 1 with attached := false, condition := none }]
       (tabbed r).house.tab 64 = some r ∧ r.state = .opened ∧ ∃ m ∈ r.slots, pairOf m.lane ≠ pairOf 48) ∧
      ((tabbed dueTab).house.tab 64 = some dueTab ∧ dueTab.state = .due) := by
  refine ⟨fine, fine, fine, fine_moduleless _, fine_moduleless _, fine, fine, fine, fine, fine, by decide, ?_, by decide,
    by decide, by decide, by decide, by decide, by decide, by decide, by decide⟩
  intro n h
  cases h
  decide

/-- The house in play with 8 orders in module 24's buffer that no answer has taken. -/
def crowded (l : LaneRecord) : State :=
  st ((play l).setSlot 24 { ModuleSlot.cold with
    present := true, orders := List.replicate 8 { even := true, kind := .reRead } })

theorem fine_crowded (l : LaneRecord) : Fine (crowded l) := by
  refine ⟨quiet_st ?_, (fine (h := play l)).2.1, rfl⟩
  have fits : (evening.setSlot 24 { ModuleSlot.cold with
    present := true, orders := List.replicate 8 { even := true, kind := .reRead } }).slotsFit := by decide
  exact fun p hp => fits p hp

/-- Both lanes of pair 24 in play on tab 64, each with its squad in open play. -/
def evenly : State := st (paired live (squadOf 47 [1]) (squadOf 48 [384]))

theorem witness_LanesDetachAndTabsClose :
    (Fine (crowded live) ∧ Fine (crowded darkened) ∧
      (∀ l ∈ [live, darkened], ((crowded l).house.lane 48).tab = some 64 ∧ (crowded l).house.tab 64 = some (tabOf [slotOf 48]) ∧
        ((crowded l).house.slot 24).orders.length = 8 ∧ (crowded l).house.modulePresent 48 = true) ∧
      (evenly.house.slot 24).orders.length + 2 ≤ 8) ∧
      Fine (room darkened) ∧ Fine (room warming) ∧ Fine (room { live with squad := none }) ∧ Fine (room live) ∧
      Fine (room (withBall ball)) ∧ Fine (room frozenLane) ∧ Fine (room (withBall keyed)) ∧ Fine (tabbed dueTab) ∧
      Fine (tabbed (tabOf [{ slotOf 48 with attached := false, condition := none }])) ∧ Fine evenly ∧
      (∀ l ∈ [darkened, warming, { live with squad := none }, live, withBall ball, frozenLane, withBall keyed],
        isLane 48 = true ∧ ((room l).house.lane 48).tab = some 64 ∧ (room l).house.tab 64 = some (tabOf [slotOf 48]) ∧
          ((room l).house.slot 24).orders.length < 8) ∧
      (darkened.mode = .dark ∧ warming.mode = .warming ∧ ({ live with squad := none } : LaneRecord).playing = true ∧
        live.playing = true ∧ live.squad = some 48 ∧ (room live).house.squad 48 = some (squadOf 48 [384, 1]) ∧
        (squadOf 48 []).lane = 48 ∧ (squadOf 48 []).mode = .openPlay ∧ live.delivery = none ∧ live.cycle = none ∧
        (room live).house.modulePresent 48 = true ∧ (withBall ball).delivery = some ball) ∧
      ((tabbed dueTab).house.tab 64 = some dueTab ∧ dueTab.state = .due ∧
        (tabbed dueTab).house.plan dueTab.plan = some timePlan) ∧
      (let r := tabOf [{ slotOf 48 with attached := false, condition := none }]
       (tabbed r).house.tab 64 = some r ∧ r.state = .opened ∧ (r.slots.filter (·.attached)).map (·.lane) = []) ∧
      (let r := tabOf [slotOf 48]
       r.state = .opened ∧ (r.slots.filter (·.attached)).map (·.lane) = [48] ∧ ((room darkened).house.lane 48).mode = .dark) ∧
      (let r := tabOf [slotOf 47, slotOf 48]
       let h := evenly.house
       h.tab 64 = some r ∧ h.plan r.plan = some timePlan ∧ r.state = .opened ∧
         (r.slots.filter (·.attached)).map (·.lane) = [47, 48] ∧
         ∀ n ∈ [47, 48], isLane n = true ∧ (h.lane n).tab = some 64 ∧ (h.lane n).squad = some n ∧ (h.lane n).playing = true ∧
           (h.squad n).map (fun x => (x.lane, x.mode)) = some (n, .openPlay)) :=
  ⟨⟨fine_crowded _, fine_crowded _, by decide, by decide⟩, fine, fine, fine, fine, fine, fine, fine, fine, fine, fine, by decide, by decide, by decide, by decide, by decide,
    by decide⟩

theorem witness_DueTabsSettleAndWarningsAreAcknowledged :
    (Sent (console 24) (tabbed { tabOf [] with warning := .acknowledged }) ∧
      (tabbed { tabOf [] with warning := .acknowledged }).house.tab 64 = some { tabOf [] with warning := .acknowledged } ∧
      ({ tabOf [] with warning := .acknowledged } : TabRecord).warning ≠ .none) ∧
      Sent desk (tabbed dueTab) ∧ Sent (console 24) (tabbed dueTab) ∧ Sent desk (room live) ∧
      Sent (console 24) (tabbed { tabOf [] with warning := .set }) ∧
      Sent desk (tabbed { tabOf [] with warning := .set }) ∧ Sent desk (tabbed { tabOf [] with warning := .acknowledged }) ∧
      (desk.origin = .desk ∧ (console 24).origin ≠ .desk ∧ (tabbed dueTab).house.tab 64 = some dueTab ∧ dueTab.state = .due ∧
        (tabbed dueTab).house.tab 63 = none ∧ (tabbed dueTab).house.tab 65 = none) ∧
      ((room live).house.tab 64 = some (tabOf [slotOf 48]) ∧ (tabOf [slotOf 48]).state = .opened ∧
        (tabOf [slotOf 48]).warning = .none) ∧
      ((tabbed { tabOf [] with warning := .set }).house.tab 64 = some { tabOf [] with warning := .set } ∧
        (tabbed { tabOf [] with warning := .acknowledged }).house.tab 64 = some { tabOf [] with warning := .acknowledged }) :=
  ⟨⟨sent, by decide, by decide⟩, sent, sent, sent, sent, sent, sent, by decide⟩

theorem witness_ItemsAreAddedAndRemoved :
    Sent (console 24) (tabbed dueTab) ∧ Sent desk (tabbed dueTab) ∧
      ((console 24).origin ≠ .desk ∧ desk.origin = .desk ∧ (tabbed dueTab).house.tab 63 = none ∧
        (tabbed dueTab).house.tab 65 = none) ∧
      Sent (console 24) (tabbed { tabOf [] with items := (numbers 8).map fun k => ⟨k, 99, 450⟩ }) ∧
      Fine (tabbed { dueTab with items := [⟨255, 1, 1⟩] }) ∧
      ((tabbed { dueTab with items := [⟨255, 1, 1⟩] }).house.tab 64 = some { dueTab with items := [⟨255, 1, 1⟩] } ∧
        (({ dueTab with items := [⟨255, 1, 1⟩] } : TabRecord).items.find? fun e => decide (e.code = 255)).isSome = true) ∧
      Fine (tabbed dueTab) ∧ Fine (tabbed { tabOf [] with items := (numbers 8).map fun k => ⟨k, 99, 450⟩ }) ∧
      Fine (tabbed (tabOf [])) ∧
      ((tabbed dueTab).house.tab 64 = some dueTab ∧ dueTab.state = .due) ∧
      (let r := { tabOf [] with items := (numbers 8).map fun k => (⟨k, 99, 450⟩ : LineItem) }
       (tabbed r).house.tab 64 = some r ∧ r.state = .opened ∧ (0 < 1 ∧ 255 < 256) ∧ (1 ≤ 255 ∧ 255 ≤ 255) ∧
         r.items.find? (fun e => decide (e.code = 255)) = none ∧ 8 ≤ r.items.length ∧
         r.items.find? (fun e => decide (e.code = 8)) = some ⟨8, 99, 450⟩ ∧ 450 ≠ min 100000 99999 ∧ 450 = min 450 99999) ∧
      ((tabbed (tabOf [])).house.tab 64 = some (tabOf []) ∧ (tabOf []).items.length < 8) :=
  ⟨sent, sent, by decide, sent, fine, by decide, fine, fine, fine, by decide⟩

/-- A lane held by ALLOWANCE alone. -/
def stayed : LaneRecord := { live with mode := .held, causes := { CauseSet.none with allowance := true } }

/-- Squad 48 stopped at a point, in open play, bowlers 384 and 1 waiting for squad frame 1. -/
def stoppedAt (point : StopPoint) : House :=
  ((play stayed).setSquad 48 (some { squadOf 48 [384, 1] with state := .stopped, stopPoint := some point, upPosition := none })).setBowler
    384 (some (bowlerOf 48 .waiting))

/-- The pair of squads 47 and 48 after squad frame 1: squad 48 stopped there, squad 47 stopped beside it or not. -/
def pairStopped (both : Bool) : House :=
  let halt (r : SquadRecord) : SquadRecord :=
    { r with state := .stopped, stopPoint := some (.atFrame 1), upPosition := none }
  let h := (paired stayed (bound (if both then halt (squadOf 47 [1]) else squadOf 47 [1]) 48 .a)
    (bound (halt (squadOf 48 [384])) 47 .b)).setLane 48 { stayed with squad := some 48 }
  (h.setBowler 384 (some { ahead with squad := 48 })).setBowler 1 (some { ahead with squad := 47 })

theorem witness_AdjustAllowanceRecomputesTheMarks :
    Fine (tabbed { tabOf [{ slotOf 48 with bandSeconds := [3600, 0] }] with allowance := .minutes 60 }) ∧
      (let r := { tabOf [{ slotOf 48 with bandSeconds := [3600, 0] }] with allowance := .minutes 60 }
       (tabbed r).house.tab 64 = some r ∧ r.state = .opened ∧ r.gamesStarted ≤ 9999) ∧
      (let h := play live
       isLane 48 = true ∧ (h.lane 48).squad = some 48 ∧ h.squad 48 = some (squadOf 48 [384, 1]) ∧
         (squadOf 48 []).lane = 48 ∧ (squadOf 48 []).state ≠ .forming ∧ (squadOf 48 []).state ≠ .gameDone ∧
         (squadOf 48 []).state ≠ .stopped) ∧
      (let h := formed spent
       (h.lane 48).squad = some 48 ∧ (h.squad 48).map (fun r => (r.lane, r.state, r.stopPoint)) = some (48, .forming, none)) ∧
      (∀ point ∈ [StopPoint.atStart .gameDone, .atFrame 0], let h := stoppedAt point
        (h.lane 48).squad = some 48 ∧
          h.squad 48 = some { squadOf 48 [384, 1] with state := .stopped, stopPoint := some point, upPosition := none } ∧
          h.toBowl (0 + 1) 384 = true ∧ (h.lane 48).keepsCauses = true) ∧
      (let h := pairStopped false
       (h.lane 48).squad = some 48 ∧ (h.squad 48).map (fun r => (r.lane, r.mode, r.partner, r.state, r.stopPoint)) =
           some (48, .pairPlay, some 47, .stopped, some (.atFrame 1)) ∧ (h.squad 47).map (·.state) = some .playing) ∧
      (let h := pairStopped true
       h.squad 48 = some { bound (squadOf 48 [384]) 47 .b with
           state := .stopped, stopPoint := some (.atFrame 1), upPosition := none } ∧
         h.squad 47 = some { bound (squadOf 47 [1]) 48 .a with
           state := .stopped, stopPoint := some (.atFrame 1), upPosition := none } ∧
         (h.lane 48).squad = some 48 ∧ (h.lane 47).squad = some 47 ∧ h.toBowl (1 + 1) 384 = true ∧ h.toBowl (1 + 1) 1 = true ∧
         (h.lane 48).keepsCauses = true ∧ (h.lane 47).keepsCauses = true) :=
  ⟨fine, by decide, by decide, by decide, by decide, by decide, by decide⟩

/-- Tab 64 a second before its allowance of one minute runs out on lane 48, whose squad is between games. -/
def lastSecond : State :=
  st (formed { tabOf [{ slotOf 48 with bandSeconds := [59, 0] }] with allowance := .minutes 1 })

/-- The part without main power, its clock unset, at a time of day. -/
def darkHouse (time : Nat) : House :=
  { evening with memory := { evening.memory with mainPower := false }, clock := { evening.clock with isSet := false, time := time } }

theorem witness_TimePassesInTenthsAndSeconds :
    Runs (room live) ∧ Runs (st { evening with clock := { evening.clock with time := 86399 } }) ∧ Runs (tabbed dueTab) ∧
      (∀ a ∈ numbers 64, ∀ r, (room live).house.tab a = some r → ∀ n, r.allowance ≠ .minutes n) ∧
      (let h := (room live).house
       h.clock.isSet = true ∧ h.clock.time < 86399 ∧ h.tab 64 = some (tabOf [slotOf 48]) ∧ (tabOf [slotOf 48]).state = .opened ∧
         (slotOf 48).attached = true ∧ (slotOf 48).condition = some .metering) ∧
      (st { evening with clock := { evening.clock with time := 86399 } }).house.clock.time = 86399 ∧
      ((tabbed dueTab).house.tab 64 = some dueTab ∧ dueTab.state = .due) ∧
      ({ tabOf [slotOf 48] with allowance := .minutes 60 } : TabRecord).slots.any MeterSlot.meters = true ∧
      ((play live).runs = true ∧ (play live).due = none ∧ 9 ≤ (play live).clock.phase ∧ House.cold.clock.phase < 9 ∧
        House.cold.due = none ∧ House.cold.runs = true) ∧
      ((play (withBall ball)).runs = true ∧ isLane 48 = true ∧ (∀ m ∈ numbers 47, (play (withBall ball)).laneDue m = none) ∧
        ((play (withBall ball)).lane 48).delivery = some ball ∧ (play (withBall ball)).reached ball.deadline = true) ∧
      (Runs lastSecond ∧
        (let r := { tabOf [{ slotOf 48 with bandSeconds := [59, 0] }] with allowance := .minutes 1 }
         lastSecond.house.tab 64 = some r ∧ r.state = .opened ∧ (slotOf 48).attached = true ∧
           (lastSecond.house.lane 48).squad = some 48 ∧
           (r.second (bandAt timePlan.bands (lastSecond.house.clock.time / 60))).runOut ≠ r.runOut ∧
           (lastSecond.house.squad 48).map (fun x => (x.state, x.stopPoint)) = some (.forming, none) ∧
           (lastSecond.house.lane 48).keepsCauses = true) ∧
        (∀ b ∈ numbers 63, lastSecond.house.tab b = none)) ∧
      (timePlan.bands ≠ [] ∧ timePlan.bands.Pairwise (fun a b => a.start < b.start) ∧ (∃ b ∈ timePlan.bands, b.start ≤ 600) ∧
        ∀ b ∈ timePlan.bands, 599 < b.start) ∧
      ((darkHouse 86399).runs = false ∧ (darkHouse 86398).clock.time < 86399 ∧ (darkHouse 86399).clock.time = 86399) := by
  refine ⟨runs, runs, runs, ?_, by decide, by decide, by decide, by decide, by decide, by decide,
    ⟨runs, by decide, by decide⟩, by decide, by decide⟩
  have all : ∀ a ∈ numbers 64, (((room live).house.tab a).all fun r => decide (r.allowance = .games 9)) = true := by decide
  intro a ha r hr n hn
  have h := all a ha
  rw [hr] at h
  simp [hn] at h

theorem witness_BandSecondsAreRoundedToUnits :
    1 ≤ timePlan.increment ∧ timePlan.kind = .time ∧ ({ timePlan with kind := .game } : RatePlan).kind = .game ∧
      timePlan.rounding = .up ∧ ({ timePlan with rounding := .down } : RatePlan).rounding = .down ∧
      ({ timePlan with rounding := .nearest } : RatePlan).rounding = .nearest := by decide

theorem witness_BillSumsAddUpAndAreHeld :
    let r := { tabOf [slotOf 48] with gameCharges := ⟨9999999, true⟩ }
    r.gameCharges.amount ≤ 9999999 ∧ ({ timePlan with minimum := 99999 } : RatePlan).minimum ≤ 99999 ∧
      ∀ m ∈ r.slots, m.bandSeconds.length = timePlan.bands.length := by decide

/-- The house with a framing state. -/
def framed (f : Framing) : State := st { play live with port := { (play live).port with framing := f } }

theorem witness_HouseFramesAreGatheredAndHandedOn :
    (120 < (121#8 : Byte).toNat) ∧
      Runs (framed .hunt) ∧ Runs (framed .body) ∧
      ((framed .hunt).house.port.framing = .hunt ∧ (0x5A#8 : Byte) ≠ 0xA5#8 ∧ (framed .body).house.port.framing ≠ .hunt ∧
        (framed .hunt).house.memory.restartOwed = false ∧ (List.replicate 120 0#8).length ≤ 120) ∧
      (halfBytes 0#16 ≠ halfBytes (crc ([0#8, 0#8, 1#8, 7#8, BitVec.ofNat 8 0] ++ []))) ∧
      (2 < (3#8 : Byte).toNat ∧ (1#8 : Byte) ≠ 0#8 ∧ isPair (25#8 : Byte).toNat = false ∧ isPair (0#8 : Byte).toNat = false ∧
        (0#8 : Byte).toNat < 1 ∧ 4 < (5#8 : Byte).toNat) ∧
      originOf 1#8 24#8 = some (.console 24) ∧ (framed .hunt).house.runs = true :=
  ⟨by decide, runs, runs, by decide⟩

/-- The evening's house with slot 24 as given and a poll of module 24 that no answer has ended. -/
def awaiting (l : LaneRecord) (m : ModuleSlot) : State :=
  let h := (play l).setSlot 24 m
  st { h with machine := { h.machine with pollOut := some ⟨24, m.sequence, 0⟩ } }

/-- A slot with a count of polls without an answer. -/
def counted (present : Bool) (unanswered : Nat) : ModuleSlot :=
  { ModuleSlot.cold with present := present, unanswered := unanswered, capabilities := ⟨true, true, true⟩ }

theorem runs_awaiting (l : LaneRecord) (m : ModuleSlot) (fits : (evening.setSlot 24 m).slotsFit) : Runs (awaiting l m) :=
  ⟨quiet_st fun p hp => fits p hp, (runs (h := play l)).2⟩

theorem witness_PollsAreSentAndMissed :
    Runs (room live) ∧ Runs (awaiting live (counted false 0)) ∧ Runs (awaiting live (counted true 1)) ∧
      Runs (awaiting live (counted true 2)) ∧ Runs (awaiting LaneRecord.cold (counted true 2)) ∧
      Runs (awaiting closingBall (counted true 2)) ∧
      ((room live).house.machine.pollOut = none ∧ isPair (room live).house.machine.turn = true) ∧
      (∀ m ∈ [counted false 0, counted true 1, counted true 2],
        (awaiting live m).house.machine.pollOut = some ⟨24, false, 0⟩ ∧ (awaiting live m).house.slot 24 = m) ∧
      (isPair 24 = true ∧ (counted false 0).present = false ∧ (counted true 1).unanswered < 2 ∧ 2 ≤ (counted true 2).unanswered) ∧
      (let l := (awaiting live (counted true 2)).house.lane 48
       l.keepsCauses = true ∧ l.causes.link = false) ∧
      ((awaiting LaneRecord.cold (counted true 2)).house.lane 48).mode = .dark ∧
      ((awaiting closingBall (counted true 2)).house.lane 48).mode = .closing ∧
      (isLane 48 = true ∧ ((crowded live).house.slot 24).present = true ∧ 8 ≤ ((crowded live).house.slot 24).orders.length ∧
        (∀ q ∈ numbers 24, ((crowded live).house.slot q).overflowed = false)) := by
  refine ⟨runs, runs_awaiting _ _ ?_, runs_awaiting _ _ ?_, runs_awaiting _ _ ?_, runs_awaiting _ _ ?_, runs_awaiting _ _ ?_,
    by decide⟩ <;> decide

theorem witness_PollAnswersDeliverTheirEvents :
    Runs (room live) ∧ Runs (awaiting live (counted true 2)) ∧ Runs (awaiting live (counted false 0)) ∧
      (isPair 24 = true ∧ isPair 1 = true ∧ (List.replicate 8 ModuleEvent.ballBack).length ≤ 8 ∧ ([] : List ModuleEvent).length ≤ 8) ∧
      ((room live).house.machine.pollOut = none ∧
        (awaiting live (counted true 2)).house.machine.pollOut = some ⟨24, false, 0⟩ ∧
        ((awaiting live (counted true 2)).house.slot 24).present = true ∧
        ((awaiting live (counted false 0)).house.slot 24).present = false) ∧
      (([ModuleEvent.present ⟨true, true, true⟩] : List ModuleEvent).head?.map ModuleEvent.isPresent = some true ∧
        ([ModuleEvent.ballBack] : List ModuleEvent).head?.map ModuleEvent.isPresent ≠ some true) ∧
      ((answerFrame ⟨24, false, 0⟩ [.ballBack]).dropLast).take 2 = [0x5A#8, BitVec.ofNat 8 24] ∧
      checks (((answerFrame ⟨24, false, 0⟩ [.ballBack]).dropLast).drop 1) = false ∧
      ((play live).runs = true ∧ ((play live).slot 24).present = true ∧ (ModuleEvent.ready true).command 24 = .ready 48 ∧
        (ModuleEvent.ready false).command 1 = .ready 1) ∧
      ([ModuleEvent.ballBack].length + 1 + [ModuleEvent.returnFault].length ≤ 8 ∧ (0x80#8 : Byte) &&& 15#8 = 0#8 ∧
        9#8 < ((0xFA#8 : Byte) &&& 15#8)) := by
  refine ⟨runs, runs_awaiting _ _ ?_, runs_awaiting _ _ ?_, by decide⟩ <;> decide

end Sys2Proof.Tests
end

section
/-! The lanes and their modes (chapter 1): what a request answers, what keeps the attention summary, the report of a
lane's mode and the start of a wake, and the statements of LANE STATUS, DESK HOLD and DESK RELEASE, WAKE, LANE OUT and
LANE IN and of the cold start. -/

namespace Sys2Proof.Machine

open Sys2Proof

/-! ### What a request answers (R176) -/

section Requests

variable {s : State} {c : Instr} {hd : Header} {unit : House → Reply} {h : House} {v : Verdict} {b : Body}

/-- The desk's origin passes the header checks. -/
theorem State.takes_of_desk (desk : s.desk hd) : s.takes hd := ⟨desk.1, by rw [desk.2]; rfl⟩

/-- An answer changes nothing that the end of a step reads. -/
theorem House.answer_quiet (quiet : h.quiet) (a : Answer) : (h.answer a).quiet :=
  House.quiet_of_same h _ quiet rfl rfl rfl rfl rfl

/-- A request becomes its unit's reply: the answer is given, and the step ends as every step does. -/
theorem answersSettled_of_reply (takes : s.takes hd) (arm : exec c s = request hd unit s)
    (reply : unit s.house = ⟨h, v, b⟩) : AnswersSettled s c hd h v b := by
  obtain ⟨frames, origin⟩ := takes
  rw [AnswersSettled, Becomes, arm, request, if_pos frames, House.takeRequest, if_pos origin, reply]
  rfl

/-- Where the reply leaves a quiet house, the end of the step adds nothing. -/
theorem answers_of_reply (takes : s.takes hd) (quiet : h.quiet) (arm : exec c s = request hd unit s)
    (reply : unit s.house = ⟨h, v, b⟩) : Answers s c hd h v b := by
  have settled := answersSettled_of_reply takes arm reply
  rwa [AnswersSettled, House.settle_of_quiet _ (House.answer_quiet quiet _)] at settled

/-- A request whose unit leaves the house as it was gives its answer and does nothing else. -/
theorem answers_of_read (takes : s.takes hd) (quiet : s.house.quiet) (arm : exec c s = request hd unit s)
    (same : (unit s.house).house = s.house) : Answers s c hd s.house (unit s.house).verdict (unit s.house).body := by
  have answered := answers_of_reply (h := (unit s.house).house) takes (by rwa [same]) arm rfl
  rwa [same] at answered

theorem refuses_of_reply {reason : Reason} (takes : s.takes hd) (quiet : s.house.quiet)
    (arm : exec c s = request hd unit s) (reply : unit s.house = refuse s.house reason) : Refuses s c hd reason :=
  answers_of_reply takes quiet arm reply

end Requests

/-! ### What keeps the attention summary (R177) -/

/-- The summary reads two causes and the tab field of each lane, the warning of each tab and the presence of each module. -/
theorem House.formSummary_congr {h k : House}
    (lanes : ∀ n, (k.lane n).causes.attention = (h.lane n).causes.attention ∧
      (k.lane n).causes.restart = (h.lane n).causes.restart ∧ (k.lane n).tab = (h.lane n).tab)
    (warnings : ∀ t, (k.tab t).map (·.warning) = (h.tab t).map (·.warning))
    (present : ∀ p, (k.slot p).present = (h.slot p).present) : k.formSummary = h.formSummary := by
  unfold House.formSummary numbersWhere
  congr 1
  · simp only [(lanes _).1]
  · simp only [(lanes _).2.1]
  · refine List.filter_congr fun t _ => ?_
    have same := warnings t
    cases ofK : k.tab t <;> cases ofH : h.tab t <;> simp_all
  · simp only [(lanes _).2.2, present]

theorem House.quiet_of_alike {h k : House} (quiet : h.quiet) (fits : k.slotsFit) (port : k.port = h.port)
    (form : k.formSummary = h.formSummary) : k.quiet := by
  obtain ⟨-, summary, attn⟩ := quiet
  exact ⟨fits, by rw [port, form, summary], by rw [port, form, attn]⟩

/-- A lane record written with the ATTENTION, the RESTART and the tab it had leaves the house quiet. -/
theorem House.setLane_quiet {h : House} {n : Nat} {l : LaneRecord} (quiet : h.quiet)
    (attention : l.causes.attention = (h.lane n).causes.attention)
    (restart : l.causes.restart = (h.lane n).causes.restart) (tab : l.tab = (h.lane n).tab) : (h.setLane n l).quiet := by
  refine House.quiet_of_alike quiet quiet.1 rfl (House.formSummary_congr (fun m => ?_) (fun _ => rfl) fun _ => rfl)
  rw [House.setLane_lane]
  split
  · next same => rw [same.1]; exact ⟨attention, restart, tab⟩
  · exact ⟨rfl, rfl, rfl⟩

/-- A module slot that fits, of a module as present as it was, leaves the house quiet. -/
theorem House.setSlot_quiet {h : House} {p : Nat} {m : ModuleSlot} (quiet : h.quiet) (fits : m.fits = true)
    (present : m.present = (h.slot p).present) : (h.setSlot p m).quiet := by
  refine House.quiet_of_alike quiet (fun q inside => ?_) rfl
    (House.formSummary_congr (fun _ => ⟨rfl, rfl, rfl⟩) (fun _ => rfl) fun q => ?_) <;> rw [House.setSlot_slot] <;> split
  · exact fits
  · exact quiet.1 q inside
  · next same => rw [same.1, present]
  · rfl

/-! ### The report of a lane's mode (R7) -/

/-- The tab record with a condition written into the attached slots of lane `n` (R7). -/
def TabRecord.conditioned (r : TabRecord) (n : Nat) (condition : MeterCondition) : TabRecord :=
  { r with slots := r.slots.map fun m =>
      if m.lane = n ∧ m.attached = true then { m with condition := some condition } else m }

/-- A later condition takes the place of an earlier one. -/
@[simp] theorem TabRecord.conditioned_conditioned (r : TabRecord) (n : Nat) (first second : MeterCondition) :
    (r.conditioned n first).conditioned n second = r.conditioned n second := by
  unfold TabRecord.conditioned
  rw [List.map_map]
  congr 2
  funext m
  by_cases own : m.lane = n ∧ m.attached = true <;> simp [own]

theorem House.report_of_no_tab {h : House} {n : Nat} (tab : (h.lane n).tab.bind h.tab = none) : h.report n = h := by
  unfold House.report
  split
  · rfl
  · next named => simp_all

theorem House.report_of_tab {h : House} {n t : Nat} {r : TabRecord} (named : (h.lane n).tab = some t)
    (record : h.tab t = some r) :
    h.report n = h.setTab t (some (r.conditioned n (meterCondition (h.lane n).mode (h.lane n).causes))) := by
  simp only [House.report, named, record, TabRecord.conditioned]

/-- All that a report can do (R7): nothing where the lane's tab field names no tab, and else the condition written into
that tab. -/
theorem House.report_cases (h : House) (n : Nat) :
    ((h.lane n).tab.bind h.tab = none ∧ h.report n = h) ∨
    ∃ t r, (h.lane n).tab = some t ∧ h.tab t = some r ∧
      h.report n = h.setTab t (some (r.conditioned n (meterCondition (h.lane n).mode (h.lane n).causes))) := by
  cases found : (h.lane n).tab.bind h.tab with
  | none => exact .inl ⟨rfl, House.report_of_no_tab found⟩
  | some r =>
    obtain ⟨t, named, record⟩ := Option.bind_eq_some_iff.1 found
    exact .inr ⟨t, r, named, record, House.report_of_tab named record⟩

theorem House.report_tab_warning (h : House) (n t : Nat) :
    ((h.report n).tab t).map (·.warning) = (h.tab t).map (·.warning) := by
  obtain ⟨-, same⟩ | ⟨u, r, -, record, written⟩ := h.report_cases n
  · rw [same]
  · rw [written, House.setTab_tab]
    split
    · next own => rw [own.1, record]; rfl
    · rfl

@[simp] theorem House.report_lane (h : House) (n m : Nat) : (h.report n).lane m = h.lane m := by
  simp [House.lane]

@[simp] theorem House.report_slot (h : House) (n p : Nat) : (h.report n).slot p = h.slot p := by
  simp [House.slot]

theorem House.report_quiet {h : House} (quiet : h.quiet) (n : Nat) : (h.report n).quiet :=
  House.quiet_of_alike quiet (fun p inside => by rw [House.report_slot]; exact quiet.1 p inside) (by simp)
    (House.formSummary_congr (fun m => by simp) (h.report_tab_warning n) fun p => by simp)

@[simp] theorem House.setTab_setTab (h : House) (t : Nat) (a b : Option TabRecord) :
    (h.setTab t a).setTab t b = h.setTab t b := by
  simp [House.setTab, numSet_numSet]

/-- A report is superseded by the next one of the same lane, whose tab field stays. -/
theorem House.report_setLane_report {h : House} {n : Nat} {l : LaneRecord} (lane : isLane n = true)
    (tab : l.tab = (h.lane n).tab) : ((h.report n).setLane n l).report n = (h.setLane n l).report n := by
  obtain ⟨-, same⟩ | ⟨t, r, named, record, written⟩ := h.report_cases n
  · rw [same]
  · have inside : 1 ≤ t ∧ t ≤ 64 := Decidable.byContradiction fun out => by
      rw [House.tab_outside h t out] at record
      cases record
    have reads (k : House) : (k.setLane n l).lane n = l := House.setLane_lane_same k n l lane
    have first : ((h.report n).setLane n l).tab t =
        some (r.conditioned n (meterCondition (h.lane n).mode (h.lane n).causes)) := by
      rw [written, House.setLane_tab, House.setTab_tab, if_pos ⟨rfl, inside⟩]
    rw [House.report_of_tab (by rw [reads, tab, named]) first,
      House.report_of_tab (by rw [reads, tab, named]) (show (h.setLane n l).tab t = some r from record), reads, reads,
      TabRecord.conditioned_conditioned, written]
    exact House.setTab_setTab (h.setLane n l) t _ _

/-! ### Hold causes (R5, R6) -/

theorem CauseSet.isNone_iff_eq_none (c : CauseSet) : c.isNone = true ↔ c = .none := by
  obtain ⟨attention, call, link, restart, desk, allowance⟩ := c
  simp [CauseSet.isNone, CauseSet.none, and_assoc]

/-- A cause that abandons no work is added to a lane that keeps causes and does not hold it (R5). -/
theorem LaneRecord.addCause_of_new {l : LaneRecord} {c : HoldCause} (keeps : l.keepsCauses = true)
    (new : l.causes.has c = false) (light : abandonsWork c = false) :
    l.addCause c = { l with causes := l.causes.put c true, mode := if l.mode = .live then .held else l.mode } := by
  simp [LaneRecord.addCause, keeps, new, light]

theorem LaneRecord.addCause_of_held {l : LaneRecord} {c : HoldCause} (held : l.causes.has c = true) :
    l.addCause c = l := by
  simp [LaneRecord.addCause, held]

/-- A cause is taken out of a lane that keeps causes, and a HELD lane with none left goes LIVE (R6). -/
theorem LaneRecord.removeCause_of_keeps {l : LaneRecord} (c : HoldCause) (keeps : l.keepsCauses = true) :
    l.removeCause c = { l with
      causes := l.causes.put c false,
      mode := if l.mode = .held ∧ l.causes.put c false = .none then .live else l.mode } := by
  simp only [LaneRecord.removeCause, keeps, CauseSet.isNone_iff_eq_none, Bool.not_true, Bool.false_eq_true, if_false]

/-- Deck recovery of a lane that holds LINK is left to the removal of LINK (R44). -/
theorem House.startRecovery_of_link {h : House} {n : Nat} (link : (h.lane n).causes.link = true) :
    h.startRecovery n = h := by
  simp [House.startRecovery, link]

/-! ### Orders and wakes (R8, R11, R178) -/

theorem House.giveOrder_of_room {h : House} {n : Nat} (room : h.roomFor n) (o : OrderKind) :
    h.giveOrder n o = h.setSlot (pairOf n) ((h.slot (pairOf n)).ordered n o) := by
  obtain ⟨present, few⟩ := room
  obtain ⟨absent, -⟩ | ⟨-, -, given⟩ | ⟨-, full, -⟩ := h.giveOrder_cases n o
  · rw [House.modulePresent, absent] at present; cases present
  · exact given
  · exact absurd few (Nat.not_lt.2 full)

/-- A slot with room still fits with an order appended to its buffer. -/
theorem ModuleSlot.ordered_fits {m : ModuleSlot} (fits : m.fits = true) (room : m.orders.length < Config.orderRoom)
    (n : Nat) (o : OrderKind) : (m.ordered n o).fits = true := by
  simp only [ModuleSlot.fits, ModuleSlot.ordered, Bool.and_eq_true, List.length_append, List.length_singleton,
    decide_eq_true_eq] at fits ⊢
  exact ⟨room, fits.2⟩

/-- Blocking presence is read from the Call Queue alone (R141). -/
theorem House.blocked_congr {h k : House} (calls : k.calls = h.calls) (n : Nat) : k.blocked n = h.blocked n := by
  simp [House.blocked, House.callHeld, House.unqueued, calls]

/-- The record of a lane whose wake has been started (R11), with the answer `blocked` to the CALL question of R8. -/
def LaneRecord.waking (l : LaneRecord) (now : Nat) (blocked : Bool) : LaneRecord :=
  { l with
    mode := .warming, warmUp := some (now + l.options.warmUpTimeout * 10),
    causes := if blocked then { l.causes with call := true } else l.causes }

/-- The house of a started wake once POWER_ON waits in the buffer, with the answer `blocked` to the CALL question. -/
def House.wakeOrdered (h : House) (n : Nat) (blocked : Bool) : House :=
  (h.setLane n ((h.lane n).waking h.now blocked)).setSlot (pairOf n) ((h.slot (pairOf n)).ordered n .powerOn)

theorem House.wakeOrdered_lane {h : House} {n : Nat} (lane : isLane n = true) (blocked : Bool) :
    (h.wakeOrdered n blocked).lane n = (h.lane n).waking h.now blocked :=
  House.setLane_lane_same h n _ lane

/-- A started wake up to the CALL question of R8, in a buffer with room: POWER_ON is given and the warm-up timer runs. -/
theorem House.warmUp_after_order {h : House} {n : Nat} (lane : isLane n = true) (room : h.roomFor n) :
    ((h.setLane n { h.lane n with mode := .warming }).giveOrder n .powerOn).startWarmUp n = h.wakeOrdered n false := by
  have roomToo : (h.setLane n { h.lane n with mode := .warming }).roomFor n := room
  rw [House.giveOrder_of_room roomToo, House.startWarmUp, House.setSlot_lane, House.setLane_lane_same h n _ lane]
  exact congrArg (House.setSlot · (pairOf n) ((h.slot (pairOf n)).ordered n .powerOn)) (House.setLane_setLane h n _ _)

/-- The answer "present" to the CALL question puts CALL on the lane that wakes (R8). -/
theorem LaneRecord.waking_addCause_call (l : LaneRecord) (now : Nat) :
    (l.waking now false).addCause .call = l.waking now true := by
  cases held : l.causes.call with
  | true =>
    rw [LaneRecord.addCause_of_held (show (l.waking now false).causes.has .call = true from held)]
    simp [LaneRecord.waking, ← held]
  | false => exact LaneRecord.addCause_of_new rfl held rfl

/-- A started wake whose module has room (R11). -/
theorem House.startWake_of_room {h : House} {n : Nat} (lane : isLane n = true) (room : h.roomFor n) :
    h.startWake n = (h.wakeOrdered n (h.blocked n)).report n := by
  have asks : ((h.wakeOrdered n false).report n).blocked n = h.blocked n := House.blocked_congr (by simp [House.wakeOrdered]) n
  simp only [House.startWake, House.warmUp_after_order lane room, asks]
  cases h.blocked n with
  | false => rfl
  | true =>
    rw [if_pos rfl, House.addCause, House.report_lane, House.wakeOrdered_lane lane, LaneRecord.waking_addCause_call,
      House.report_setLane_report lane (by rw [House.wakeOrdered_lane lane]; rfl)]
    congr 1
    exact congrArg (House.setSlot · (pairOf n) ((h.slot (pairOf n)).ordered n .powerOn)) (House.setLane_setLane h n _ _)

/-- A wake started in a buffer with room leaves a quiet house quiet: CALL, mode and order are not read by the summary. -/
theorem House.wakeOrdered_quiet {h : House} {n : Nat} (quiet : h.quiet) (room : h.roomFor n) (blocked : Bool) :
    (h.wakeOrdered n blocked).quiet := by
  refine House.setSlot_quiet (House.setLane_quiet quiet ?_ ?_ rfl)
    (ModuleSlot.ordered_fits (h.slotsFit_all quiet.1 _) room.2 n .powerOn) rfl <;> cases blocked <;> rfl

/-! ### The cold start (R25, R181) -/

theorem House.cold_lane (n : Nat) : House.cold.lane n = .cold := numGet_replicate ..

theorem House.cold_tab (t : Nat) : House.cold.tab t = none := numGet_replicate ..

theorem House.cold_slot (p : Nat) : House.cold.slot p = .cold := numGet_replicate ..

/-- No lane, tab or module of a cold house stands in the summary. -/
theorem House.cold_formSummary : House.cold.formSummary = .none := by
  simp [House.formSummary, numbersWhere, House.cold_lane, House.cold_tab, LaneRecord.cold, CauseSet.none, Summary.none]

theorem House.cold_quiet : House.cold.quiet := by
  refine ⟨fun p _ => ?_, House.cold_formSummary.symm, ?_⟩
  · rw [House.cold_slot]; rfl
  · rw [House.cold_formSummary]; rfl

theorem House.coldStart_quiet (h : House) : h.coldStart.quiet :=
  House.quiet_of_same House.cold _ House.cold_quiet rfl rfl rfl rfl rfl

/-- Power that returns with RESET released and the mark clear makes a cold start (R181). -/
theorem House.powerReturns_of_mark_clear {h : House} (power : h.memory.mainPower = false)
    (reset : h.memory.resetHeld = false) (mark : h.memory.valid = false) :
    h.powerReturns = ({ h with memory := { h.memory with mainPower := true } } : House).coldStart := by
  simp only [House.powerReturns, House.startByMark, power, reset, mark, Bool.false_eq_true, if_false]
  exact House.settle_of_quiet _ (House.coldStart_quiet _)

/-- Settles O4: the start is `House.coldStart`, which the end of its step leaves as it is, and every bank of a cold house
is filled with its cold record. -/
theorem coldStartFillsTheRecords : Obligations.ColdStartFillsTheRecords := by
  intro s power reset mark
  refine ⟨_, congrArg (fun h => Host.Outcome.next (s.withHouse h)) (House.powerReturns_of_mark_clear power reset mark), rfl,
    House.cold_lane, fun k => numGet_replicate .., fun q => numGet_replicate .., House.cold_tab,
    fun p => numGet_replicate .., rfl, fun n => numGet_replicate .., rfl, rfl, rfl, rfl, rfl, House.cold_slot, rfl, rfl,
    rfl, rfl, rfl, fun p => numGet_replicate .., rfl, rfl, rfl⟩

/-! ### LANE STATUS (R2) -/

theorem mayReadLane_iff (n : Nat) (o : Origin) : mayReadLane n o = true ↔ ∀ p, o = .console p → p = pairOf n := by
  cases o <;> simp [mayReadLane]

/-- The frozen mark is that of the delivery in flight, if any. -/
theorem LaneRecord.frozen_eq (l : LaneRecord) : l.frozen = (l.delivery.map (·.frozen)).getD false := by
  cases found : l.delivery <;> simp [LaneRecord.frozen, found]

theorem laneStatus_house (o : Origin) (n : Nat) (h : House) : (laneStatus o n h).house = h := by
  unfold laneStatus
  split
  · rfl
  · split <;> rfl

/-- The reply of LANE STATUS depends on nothing but the lane record, beside its own operands. -/
theorem laneStatus_reply_congr {h k : House} {n : Nat} (same : k.lane n = h.lane n) (o : Origin) :
    (laneStatus o n k).verdict = (laneStatus o n h).verdict ∧ (laneStatus o n k).body = (laneStatus o n h).body := by
  unfold laneStatus
  by_cases lane : isLane n = true
  · by_cases may : mayReadLane n o = true <;> simp [lane, may, same, refuse, doneWith]
  · simp [lane, refuse]

/-- The answer of LANE STATUS, whatever its verdict. -/
theorem laneStatus_answers {s : State} {hd : Header} (takes : s.takes hd) (quiet : s.house.quiet) (n : Nat) :
    Answers s (.laneStatus hd n) hd s.house (laneStatus hd.origin n s.house).verdict
      (laneStatus hd.origin n s.house).body :=
  answers_of_read takes quiet rfl (laneStatus_house hd.origin n s.house)

/-- Settles O13: the reply is the lane's record by cases of R2, and the answer it leaves in the house is not read by a second
LANE STATUS. -/
theorem laneStatusGivesThePresentRecord : Obligations.LaneStatusGivesThePresentRecord := by
  intro s hd n quiet takes
  refine ⟨fun out => ?_, fun lane other => ?_, fun lane own => ?_, ?_⟩
  · exact refuses_of_reply takes quiet rfl (by simp [laneStatus, out])
  · obtain ⟨p, console, foreign⟩ := other
    have may : mayReadLane n hd.origin = false := by simp [mayReadLane, console, foreign]
    exact refuses_of_reply takes quiet rfl (by simp [laneStatus, lane, may])
  · have may := (mayReadLane_iff n hd.origin).2 own
    exact answers_of_reply takes quiet rfl (by simp [laneStatus, lane, may, doneWith, laneStatusBody, LaneRecord.frozen_eq])
  · let a : Answer := ⟨hd.sequence, (laneStatus hd.origin n s.house).verdict, (laneStatus hd.origin n s.house).body⟩
    let t : State := ⟨s.house.answer a, s.pending⟩
    obtain ⟨verdict, body⟩ := laneStatus_reply_congr (h := s.house) (k := t.house) (n := n) rfl hd.origin
    refine ⟨t, laneStatus_answers takes quiet n, _, laneStatus_answers (s := t) takes (House.answer_quiet quiet a) n, ?_⟩
    rw [verdict, body]
    simp [t, a]

/-! ### DESK HOLD and DESK RELEASE (R10) -/

/-- The cause DESK put in or taken out, with the mode that follows, leaves a quiet house quiet. -/
theorem House.desk_quiet {h : House} {n : Nat} (quiet : h.quiet) (held : Bool) (mode : Mode) :
    ((h.setLane n { h.lane n with causes := { (h.lane n).causes with desk := held }, mode := mode }).report n).quiet := by
  apply House.report_quiet
  exact House.setLane_quiet quiet rfl rfl rfl

section DeskCauses

variable {n : Nat} {h : House}

theorem deskHold_adds (lane : isLane n = true) (keeps : (h.lane n).keepsCauses = true)
    (new : (h.lane n).causes.desk = false) : deskHold .desk n h = done (h.addCause n .desk) := by
  simp [deskHold, lane, isDesk, keeps, new]

theorem deskRelease_removes_desk (lane : isLane n = true) (held : (h.lane n).causes.desk = true) :
    deskRelease .desk n (some .desk) h = done (h.removeCause n .desk) := by
  simp [deskRelease, lane, isDesk, held]

theorem deskRelease_removes_restart (lane : isLane n = true) (held : (h.lane n).causes.restart = true) :
    deskRelease .desk n (some .restart) h = done ((h.removeCause n .restart).startRecovery n) := by
  simp [deskRelease, lane, isDesk, held]

end DeskCauses

/-- The recovery that follows the release of RESTART is left where the lane holds LINK (R10, R44). -/
theorem House.startRecovery_unless_link {h k : House} {n : Nat} (link : (k.lane n).causes.link = (h.lane n).causes.link) :
    k.startRecovery n = if (h.lane n).causes.link then k else k.startRecovery n := by
  split
  · next holds => exact House.startRecovery_of_link (link.trans holds)
  · rfl

/-- Settles O18, a clause for each branch of the two requests: the lane record after `addCause` or `removeCause` is the one
stated, and neither the cause DESK nor a report is read by the attention summary. -/
theorem deskHoldsAndReleases : Obligations.DeskHoldsAndReleases := by
  refine ⟨fun s hd n quiet takes => ⟨fun out desk => ?_, fun lane away => ?_⟩, fun s hd n quiet desk lane => ?_⟩
  · refine ⟨?_, ?_, ?_⟩
    · exact refuses_of_reply takes quiet rfl (by simp [deskHold, out])
    · exact refuses_of_reply takes quiet rfl (by simp [deskRelease, out])
    · exact refuses_of_reply takes quiet rfl (by simp [deskRelease, out])
  · have notDesk : isDesk hd.origin = false := by simp [isDesk, away]
    refine ⟨fun _ => ?_, fun _ => ?_, fun _ => ?_⟩
    · exact refuses_of_reply takes quiet rfl (by simp [deskHold, lane, notDesk])
    · exact refuses_of_reply takes quiet rfl (by simp [deskRelease, lane, notDesk])
    · exact refuses_of_reply takes quiet rfl (by simp [deskRelease, lane, notDesk])
  · have takes := State.takes_of_desk desk
    have isDesk : isDesk hd.origin = true := by simp [isDesk, desk.2]
    refine ⟨fun keeps new => ?_, fun keeps held => ?_, fun asleep => ?_, fun keeps held => ?_, fun keeps held => ?_,
      fun free => ?_, fun free => ?_, fun c other => ?_⟩
    · refine answers_of_reply takes (House.desk_quiet quiet true _) rfl ?_
      rw [desk.2, deskHold_adds lane keeps new, House.addCause, LaneRecord.addCause_of_new (c := .desk) keeps new rfl]
      rfl
    · exact answers_of_reply takes quiet rfl (by simp [deskHold, lane, isDesk, keeps, held, done])
    · exact refuses_of_reply takes quiet rfl (by simp [deskHold, lane, isDesk, asleep])
    · refine answers_of_reply takes (House.desk_quiet quiet false _) rfl ?_
      rw [desk.2, deskRelease_removes_desk lane held, House.removeCause, LaneRecord.removeCause_of_keeps .desk keeps]
      rfl
    · refine answersSettled_of_reply takes rfl ?_
      rw [desk.2, deskRelease_removes_restart lane held, House.removeCause, LaneRecord.removeCause_of_keeps .restart keeps,
        House.startRecovery_unless_link (h := s.house) (by rw [House.report_lane, House.setLane_lane_same _ n _ lane]; rfl)]
      rfl
    · exact refuses_of_reply takes quiet rfl (by simp [deskRelease, lane, isDesk, free])
    · exact refuses_of_reply takes quiet rfl (by simp [deskRelease, lane, isDesk, free])
    · refine refuses_of_reply takes quiet rfl ?_
      simp only [List.mem_cons, List.not_mem_nil, or_false] at other
      rcases other with rfl | rfl | rfl | rfl | rfl <;> simp [deskRelease, lane, isDesk]

/-! ### WAKE and START GAME of a lane that is not playing (R11 to R13) -/

section Wakes

variable {n : Nat} {allowed : Bool} {verdict : Verdict} {h : House}

theorem LaneRecord.playing_iff (l : LaneRecord) : l.playing = true ↔ l.mode = .live ∨ l.mode = .held := by
  simp [LaneRecord.playing]

theorem LaneRecord.not_playing_of_mode {l : LaneRecord} {mode : Mode} (is : l.mode = mode)
    (asleep : (decide (mode = .live) || decide (mode = .held)) = false) : l.playing = false := by
  subst is; exact asleep

theorem wakeAsleep_starts (dark : (h.lane n).mode = .dark) (tab : (h.lane n).tab.isSome = true) (may : allowed = true)
    (present : h.modulePresent n = true) : wakeAsleep n allowed verdict h = ⟨h.startWake n, verdict, .empty⟩ := by
  simp [wakeAsleep, wakeDark, dark, Option.isSome_iff_ne_none.1 tab, may, present]

theorem wakeAsleep_absent (dark : (h.lane n).mode = .dark) (tab : (h.lane n).tab.isSome = true) (may : allowed = true)
    (absent : h.modulePresent n = false) : wakeAsleep n allowed verdict h = refuse h .noMachine := by
  simp [wakeAsleep, wakeDark, dark, Option.isSome_iff_ne_none.1 tab, may, absent]

theorem wakeAsleep_not_allowed (dark : (h.lane n).mode = .dark) (barred : allowed = false) :
    wakeAsleep n allowed verdict h = refuse h .wrongState := by
  simp [wakeAsleep, wakeDark, dark, barred]

theorem wakeAsleep_no_tab (dark : (h.lane n).mode = .dark) (tab : (h.lane n).tab = none) :
    wakeAsleep n allowed verdict h = refuse h .wrongState := by
  simp [wakeAsleep, wakeDark, dark, tab]

theorem wakeAsleep_warming (warming : (h.lane n).mode = .warming) :
    wakeAsleep n allowed verdict h = ⟨h, .waking, .empty⟩ := by
  simp [wakeAsleep, warming]

theorem wakeAsleep_out_or_closing (away : (h.lane n).mode = .out ∨ (h.lane n).mode = .closing) :
    wakeAsleep n allowed verdict h = refuse h .wrongState := by
  rcases away with out | closing <;> simp [wakeAsleep, *]

theorem wakeLane_of_desk (lane : isLane n = true) (asleep : (h.lane n).playing = false) :
    wakeLane .desk n h = wakeAsleep n true .done h := by
  simp [wakeLane, lane, asleep, deskOrOwnConsole, isDesk]

theorem wakeLane_of_playing {o : Origin} (lane : isLane n = true) (own : deskOrOwnConsole n o = true)
    (playing : (h.lane n).playing = true) : wakeLane o n h = done h := by
  simp [wakeLane, lane, own, playing]

theorem wakeLane_of_console (lane : isLane n = true) (asleep : (h.lane n).playing = false) :
    wakeLane (.console (pairOf n)) n h = wakeAsleep n (h.lane n).options.consoleWake .waking h := by
  simp [wakeLane, lane, asleep, deskOrOwnConsole, isDesk, isConsoleOf]

theorem startGame_asleep {o : Origin} (lane : isLane n = true) (own : deskOrOwnConsole n o = true)
    (asleep : (h.lane n).playing = false) :
    startGame o n h = wakeAsleep n (isDesk o || (h.lane n).options.consoleWake) .waking h := by
  simp [startGame, lane, own, asleep]

end Wakes

/-- A lane that is not playing is asked for by one question of R13, whether a console asks with WAKE, or the desk or a
console with START GAME. -/
theorem asks_wakeAsleep {s : State} {hd : Header} {n : Nat} {c : Instr} (lane : isLane n = true)
    (asked : c ∈ [Instr.wake hd n, .startGame hd n])
    (origin : hd.origin = .console (pairOf n) ∨ hd.origin = .desk ∧ c = .startGame hd n)
    (asleep : (s.house.lane n).playing = false) :
    ∃ unit, exec c s = request hd unit s ∧
      unit s.house = wakeAsleep n (isDesk hd.origin || (s.house.lane n).options.consoleWake) .waking s.house := by
  have own : deskOrOwnConsole n hd.origin = true := by
    rcases origin with console | ⟨desk, -⟩ <;> simp [deskOrOwnConsole, isDesk, isConsoleOf, *]
  simp only [List.mem_cons, List.not_mem_nil, or_false] at asked
  rcases asked with rfl | rfl
  · have console : hd.origin = .console (pairOf n) := origin.resolve_right fun desk => by cases desk.2
    exact ⟨_, rfl, by rw [console]; exact wakeLane_of_console lane asleep⟩
  · exact ⟨_, rfl, startGame_asleep lane own asleep⟩

/-- Settles O20: each request is `wakeAsleep` on a lane that is not playing, whose reply follows the mode, and a wake that
is started in a buffer with room is the house of `startWake_of_room`. -/
theorem wakesStartOrAnswerByMode : Obligations.WakesStartOrAnswerByMode := by
  refine ⟨fun s hd n quiet desk => ⟨fun out => ?_, fun lane => ?_⟩, fun s hd n quiet desk lane dark tab room => ?_,
    fun s hd n quiet takes lane => ⟨fun notDesk notConsole => ?_, fun console playing => ?_,
      fun c asked origin asleep => ?_⟩⟩
  · exact refuses_of_reply (State.takes_of_desk desk) quiet rfl (by simp [wakeLane, out])
  · have takes := State.takes_of_desk desk
    have reply (asleep : (s.house.lane n).playing = false) :
        wakeLane hd.origin n s.house = wakeAsleep n true .done s.house := by
      rw [desk.2, wakeLane_of_desk lane asleep]
    have ofDark (dark : (s.house.lane n).mode = .dark) := reply (LaneRecord.not_playing_of_mode dark rfl)
    refine ⟨fun dark tab present => ?_, fun dark tab absent => ?_, fun dark tab => ?_, fun warming => ?_,
      fun playing => ?_, fun away => ?_⟩
    · exact answersSettled_of_reply takes rfl ((ofDark dark).trans (wakeAsleep_starts dark tab rfl present))
    · exact refuses_of_reply takes quiet rfl ((ofDark dark).trans (wakeAsleep_absent dark tab rfl absent))
    · exact refuses_of_reply takes quiet rfl ((ofDark dark).trans (wakeAsleep_no_tab dark tab))
    · exact answers_of_reply takes quiet rfl
        ((reply (LaneRecord.not_playing_of_mode warming rfl)).trans (wakeAsleep_warming warming))
    · exact answers_of_reply takes quiet rfl (wakeLane_of_playing lane (by simp [deskOrOwnConsole, isDesk, desk.2])
        ((LaneRecord.playing_iff _).2 playing))
    · have asleep := away.elim (LaneRecord.not_playing_of_mode · rfl) (LaneRecord.not_playing_of_mode · rfl)
      exact refuses_of_reply takes quiet rfl ((reply asleep).trans (wakeAsleep_out_or_closing away))
  · refine answers_of_reply (State.takes_of_desk desk)
      (House.report_quiet (House.wakeOrdered_quiet quiet room (s.house.blocked n)) n) rfl ?_
    rw [desk.2, wakeLane_of_desk lane (LaneRecord.not_playing_of_mode dark rfl), wakeAsleep_starts dark tab rfl room.1,
      House.startWake_of_room lane room]
    rfl
  · have foreign : deskOrOwnConsole n hd.origin = false := by
      simp [deskOrOwnConsole, isDesk, isConsoleOf, notDesk, notConsole]
    exact ⟨refuses_of_reply takes quiet rfl (by simp [wakeLane, lane, foreign]),
      refuses_of_reply takes quiet rfl (by simp [startGame, lane, foreign])⟩
  · exact answers_of_reply takes quiet rfl
      (wakeLane_of_playing lane (by simp [deskOrOwnConsole, isConsoleOf, console]) playing)
  · obtain ⟨unit, arm, reply⟩ := asks_wakeAsleep lane asked origin asleep
    have allowed (may : hd.origin = .desk ∨ (s.house.lane n).options.consoleWake = true) :
        (isDesk hd.origin || (s.house.lane n).options.consoleWake) = true := by
      simpa [isDesk] using may
    refine ⟨fun dark tab may present => ?_, fun dark tab may absent => ?_, fun dark _ notDesk barred => ?_,
      fun dark tab => ?_, fun warming => ?_, fun away => ?_⟩
    · exact answersSettled_of_reply takes arm (reply.trans (wakeAsleep_starts dark tab (allowed may) present))
    · exact refuses_of_reply takes quiet arm (reply.trans (wakeAsleep_absent dark tab (allowed may) absent))
    · exact refuses_of_reply takes quiet arm
        (reply.trans (wakeAsleep_not_allowed dark (by simp [isDesk, notDesk, barred])))
    · exact refuses_of_reply takes quiet arm (reply.trans (wakeAsleep_no_tab dark tab))
    · exact answers_of_reply takes quiet arm (reply.trans (wakeAsleep_warming warming))
    · exact refuses_of_reply takes quiet arm (reply.trans (wakeAsleep_out_or_closing away))

/-! ### LANE OUT and LANE IN (R20) -/

/-- A change of mode alone leaves a quiet house quiet. -/
theorem House.setMode_quiet {h : House} (quiet : h.quiet) (n : Nat) (mode : Mode) :
    (h.setLane n { h.lane n with mode := mode }).quiet :=
  House.setLane_quiet quiet rfl rfl rfl

/-- A lane that is not DARK takes no tab (R20, R155, R156). -/
theorem House.not_attachable_of_mode {h : House} {n : Nat} (awake : (h.lane n).mode ≠ .dark) : h.attachable n = false := by
  simp [House.attachable, awake]

/-- OPEN TAB on a lane that takes no tab, where every earlier check passes, whether or not the plan is defined (R155). -/
theorem openTabAt_not_attachable {h : House} {p n : Nat} (plan : p < 8) (lane : isLane n = true)
    (clock : h.clock.isSet = true) (free : h.freeTab.isSome = true) (barred : h.attachable n = false) (auto : Bool)
    (a : Option (Option Allowance)) (lead : Option Nat) :
    openTabAt .desk p (some n) auto a lead h = refuse h .wrongState := by
  obtain ⟨t, found⟩ := Option.isSome_iff_exists.1 free
  simp [openTabAt, isDesk, isPlan, plan, laneOrNone, lane, clock, found, barred]

theorem attachAt_not_attachable {h : House} {t n : Nat} {r : TabRecord} (record : h.tab t = some r)
    (lane : isLane n = true) (barred : h.attachable n = false) (auto : Bool) :
    attachAt .desk t n auto h = refuse h .wrongState := by
  simp [attachAt, isDesk, record, lane, barred]

/-- Settles O21, a clause for each branch of the two requests; a mode is not read by the attention summary. -/
theorem laneOutAndLaneIn : Obligations.LaneOutAndLaneIn := by
  refine fun s hd n quiet takes => ⟨fun out desk => ⟨?_, ?_⟩, fun lane away => ?_, fun lane desk => ?_⟩
  · exact refuses_of_reply takes quiet rfl (by simp [laneOut, out])
  · exact refuses_of_reply takes quiet rfl (by simp [laneIn, out])
  · have notDesk : isDesk hd.origin = false := by simp [isDesk, away]
    have outRefused := refuses_of_reply (c := .laneOut hd n) (reason := .notYours) takes quiet rfl
      (by simp [laneOut, lane, notDesk])
    exact ⟨fun _ _ => outRefused,
      fun _ => ⟨outRefused, refuses_of_reply takes quiet rfl (by simp [laneIn, lane, notDesk])⟩⟩
  · have isDesk : isDesk hd.origin = true := by simp [isDesk, desk]
    refine ⟨fun dark tab => ?_, fun dark tab => ?_, fun out => ?_, fun notDark notOut => ?_, fun out => ?_,
      fun notOut => ?_, fun out => ⟨fun p auto a lead plan clock free => ?_, fun t r auto record => ?_⟩⟩
    · exact answers_of_reply takes (House.setMode_quiet quiet n .out) rfl
        (by simp [laneOut, lane, isDesk, dark, tab, done])
    · exact refuses_of_reply takes quiet rfl (by simp [laneOut, lane, isDesk, dark, tab])
    · exact answers_of_reply takes quiet rfl (by simp [laneOut, lane, isDesk, out, done])
    · refine refuses_of_reply takes quiet rfl ?_
      cases mode : (s.house.lane n).mode <;> simp_all [laneOut]
    · exact answers_of_reply takes (House.setMode_quiet quiet n .dark) rfl (by simp [laneIn, lane, isDesk, out, done])
    · exact refuses_of_reply takes quiet rfl (by simp [laneIn, lane, isDesk, notOut])
    · have barred := House.not_attachable_of_mode (h := s.house) (n := n) (by simp [out])
      exact refuses_of_reply takes quiet rfl
        (by rw [desk]; exact openTabAt_not_attachable plan lane clock free barred auto a lead)
    · have barred := House.not_attachable_of_mode (h := s.house) (n := n) (by simp [out])
      exact refuses_of_reply takes quiet rfl (by rw [desk]; exact attachAt_not_attachable record lane barred auto)

end Sys2Proof.Machine
end

section
/-! A delivery completed by hand (chapter 2): a cycle ordered from a module with room, the ball of a frame that goes on, and
the statement of MANUAL ENTRY. -/

namespace Sys2Proof.Machine

open Sys2Proof

/-! ### A cycle ordered in a buffer with room (R38) -/

/-- The record of a lane whose deck has been given a cycle at time `now` (R38). -/
def LaneRecord.cycleGiven (l : LaneRecord) (now : Nat) (kind : CycleKind) (pins : PinSet) : LaneRecord :=
  { l with
    cycle := some { kind := normalCycle kind pins, commanded := commandedSet (normalCycle kind pins) pins,
                    deadline := now + l.options.cycleTimeout, retry := false },
    deck := .cycling }

/-- The house of an ordered cycle once its order waits in the buffer. -/
def House.cycleOrdered (h : House) (n : Nat) (kind : CycleKind) (pins : PinSet) : House :=
  (h.setLane n ((h.lane n).cycleGiven h.now kind pins)).setSlot (pairOf n)
    ((h.slot (pairOf n)).ordered n (cycleOrder (normalCycle kind pins) pins))

theorem House.orderCycle_of_room {h : House} {n : Nat} (room : h.roomFor n) (kind : CycleKind) (pins : PinSet) :
    h.orderCycle n kind pins = h.cycleOrdered n kind pins := by
  have roomToo : (h.setLane n ((h.lane n).cycleGiven h.now kind pins)).roomFor n := room
  exact House.giveOrder_of_room roomToo _

/-- Deck and cycle are not read by the attention summary, and the order fits in the buffer. -/
theorem House.cycleOrdered_quiet {h : House} {n : Nat} (quiet : h.quiet) (room : h.roomFor n) (kind : CycleKind)
    (pins : PinSet) : (h.cycleOrdered n kind pins).quiet :=
  House.setSlot_quiet (House.setLane_quiet quiet rfl rfl rfl)
    (ModuleSlot.ordered_fits (h.slotsFit_all quiet.1 _) room.2 n _) rfl

/-- A cycle ordered on a lane whose record has just been written: the earlier write is superseded. -/
theorem House.cycleOrdered_setLane (h : House) {n : Nat} (lane : isLane n = true) (l : LaneRecord) (kind : CycleKind)
    (pins : PinSet) :
    (h.setLane n l).cycleOrdered n kind pins = (h.setLane n (l.cycleGiven h.now kind pins)).setSlot (pairOf n)
      ((h.slot (pairOf n)).ordered n (cycleOrder (normalCycle kind pins) pins)) := by
  rw [House.cycleOrdered, House.setLane_lane_same h n l lane, House.setLane_setLane]
  rfl

/-! ### The ball of a frame that goes on (R35, R60) -/

theorem House.setBowler_quiet {h : House} (quiet : h.quiet) (k : Nat) (b : Option BowlerRecord) : (h.setBowler k b).quiet :=
  House.quiet_of_same h _ quiet rfl rfl rfl rfl rfl

/-- The house of a delivery completed on lane `n` with standing-after set `after`, once the record of bowler `k` is `b` and
before a cycle is ordered (R35). -/
def House.ballRecorded (h : House) (n k : Nat) (b : BowlerRecord) (after : PinSet) : House :=
  (h.setBowler k (some b)).setLane n { h.lane n with delivery := none, standing := after }

theorem House.ballRecorded_quiet {h : House} (quiet : h.quiet) (n k : Nat) (b : BowlerRecord) (after : PinSet) :
    (h.ballRecorded n k b after).quiet :=
  House.setLane_quiet (House.setBowler_quiet quiet k _) rfl rfl rfl

/-- The bowler record with a completed delivery put on its sheet (R52). -/
def BowlerRecord.recorded (b : BowlerRecord) (d : Delivery) (after : PinSet) : BowlerRecord :=
  { b with sheet := (b.sheet.record d.before after d.foul d.speed).1 }

section Completed

variable {h : House} {n : Nat} {d : Delivery} {b : BowlerRecord} {after : PinSet}

/-- A ball that leaves its frame open needs a RESPOT of the owed set, and makes no rotation (R60). -/
theorem House.scoreBall_of_frame_open (bowler : h.bowler d.bowler = some b)
    (frameOpen : (b.sheet.record d.before after d.foul d.speed).2 = false) (n : Nat) :
    h.scoreBall n d after =
      (h.setBowler d.bowler (some (b.recorded d after)), .respot, (b.recorded d after).sheet.owed) := by
  simp [House.scoreBall, BowlerRecord.recorded, bowler, frameOpen]

/-- A delivery of a frame that goes on, completed on a lane that owes no recovery and whose module has room (R35): the ball
is on its sheet, and the cycle of R60 is ordered. -/
theorem House.completeDelivery_of_frame_open (lane : isLane n = true) (delivery : (h.lane n).delivery = some d)
    (bowler : h.bowler d.bowler = some b) (noRecovery : (h.lane n).recoveryOwed = false) (room : h.roomFor n)
    (frameOpen : (b.sheet.record d.before after d.foul d.speed).2 = false) :
    h.completeDelivery n after =
      (h.ballRecorded n d.bowler (b.recorded d after) after).cycleOrdered n .respot (b.recorded d after).sheet.owed := by
  have scored := House.scoreBall_of_frame_open (h := h.setLane n { h.lane n with delivery := none, standing := after })
    bowler frameOpen n
  have noRecoveryToo : ((h.ballRecorded n d.bowler (b.recorded d after) after).lane n).recoveryOwed = false := by
    rw [House.ballRecorded, House.setLane_lane_same _ n _ lane]; exact noRecovery
  have roomToo : (h.ballRecorded n d.bowler (b.recorded d after) after).roomFor n := room
  rw [← House.orderCycle_of_room roomToo]
  simp only [House.completeDelivery, delivery, scored]
  exact if_neg (ne_true_of_eq_false noRecoveryToo)

/-- Which delivery is in flight does not show once it is completed. -/
theorem House.ballRecorded_setDelivery (h : House) (lane : isLane n = true) (x : Option Delivery) (k : Nat)
    (b : BowlerRecord) (after : PinSet) :
    (h.setLane n { h.lane n with delivery := x }).ballRecorded n k b after = h.ballRecorded n k b after := by
  rw [House.ballRecorded, House.setLane_lane_same h n _ lane]
  exact House.setLane_setLane (h.setBowler k (some b)) n _ _

/-- The completion of a delivery of which a part has just been written, such as its foul mark (R36). -/
theorem House.completeDelivery_of_setDelivery (lane : isLane n = true) (bowler : h.bowler d.bowler = some b)
    (noRecovery : (h.lane n).recoveryOwed = false) (room : h.roomFor n)
    (frameOpen : (b.sheet.record d.before after d.foul d.speed).2 = false) :
    (h.setLane n { h.lane n with delivery := some d }).completeDelivery n after =
      (h.ballRecorded n d.bowler (b.recorded d after) after).cycleOrdered n .respot (b.recorded d after).sheet.owed := by
  have reads := House.setLane_lane_same h n { h.lane n with delivery := some d } lane
  rw [House.completeDelivery_of_frame_open lane (congrArg LaneRecord.delivery reads) bowler
    ((congrArg LaneRecord.recoveryOwed reads).trans noRecovery) room frameOpen, House.ballRecorded_setDelivery h lane]

end Completed

/-! ### MANUAL ENTRY (R36) -/

theorem deskOrOwnConsole_iff (n : Nat) (o : Origin) :
    deskOrOwnConsole n o = true ↔ o = .desk ∨ o = .console (pairOf n) := by
  simp [deskOrOwnConsole, isDesk, isConsoleOf]

section Entries

variable {o : Origin} {n : Nat} {after : PinSet} {mark : Option Bool} {h : House} {d : Delivery}

theorem manualEntry_no_delivery (lane : isLane n = true) (own : deskOrOwnConsole n o = true)
    (idle : (h.lane n).delivery = none) : manualEntry o n after mark h = refuse h .wrongState := by
  simp [manualEntry, lane, own, idle]

theorem manualEntry_read (lane : isLane n = true) (own : deskOrOwnConsole n o = true)
    (delivery : (h.lane n).delivery = some d) (manner : d.manner = .read) :
    manualEntry o n after mark h = refuse h .wrongState := by
  simp [manualEntry, lane, own, delivery, manner]

theorem manualEntry_pin_risen (lane : isLane n = true) (own : deskOrOwnConsole n o = true)
    (delivery : (h.lane n).delivery = some d) (manner : d.manner = .manual) (risen : after &&& ~~~d.before ≠ noPins) :
    manualEntry o n after mark h = refuse h .outOfRange := by
  simp [manualEntry, lane, own, delivery, manner, pinsWithin, risen]

theorem manualEntry_completes (lane : isLane n = true) (own : deskOrOwnConsole n o = true)
    (delivery : (h.lane n).delivery = some d) (manner : d.manner = .manual) (within : after &&& ~~~d.before = noPins) :
    manualEntry o n after mark h =
      done ((h.setLane n { h.lane n with delivery := some { d with foul := d.foul || mark.getD false } }).completeDelivery
        n after) := by
  simp [manualEntry, lane, own, delivery, manner, pinsWithin, within]

end Entries

/-- Settles O24: the reply of each branch of R36, and for a frame that goes on the house of
`House.completeDelivery_of_frame_open` with its cycle in a buffer with room, which is quiet again. -/
theorem manualEntryCompletesTheDelivery : Obligations.ManualEntryCompletesTheDelivery := by
  refine fun s hd n after mark quiet takes => ⟨fun out => ?_, fun lane notDesk notConsole => ?_, fun lane origin => ?_⟩
  · exact refuses_of_reply takes quiet rfl (by simp [manualEntry, out])
  · have foreign : deskOrOwnConsole n hd.origin = false := by
      simp [← Bool.not_eq_true, deskOrOwnConsole_iff, notDesk, notConsole]
    exact refuses_of_reply takes quiet rfl (by simp [manualEntry, lane, foreign])
  have own := (deskOrOwnConsole_iff n hd.origin).2 origin
  refine ⟨fun idle => refuses_of_reply takes quiet rfl (manualEntry_no_delivery lane own idle),
    fun d delivery => ⟨fun manner => ?_, fun manner risen => ?_, fun manner within => ?_⟩⟩
  · exact refuses_of_reply takes quiet rfl (manualEntry_read lane own delivery manner)
  · exact refuses_of_reply takes quiet rfl (manualEntry_pin_risen lane own delivery manner risen)
  have reply := manualEntry_completes (mark := mark) lane own delivery manner within
  refine ⟨answersSettled_of_reply takes rfl reply, fun b bowler noRecovery room frameOpen => ?_⟩
  have completed := House.completeDelivery_of_setDelivery (d := { d with foul := d.foul || mark.getD false }) lane bowler
    noRecovery room frameOpen
  have answered := answers_of_reply (c := .manualEntry hd n after mark) takes
    (House.cycleOrdered_quiet (House.ballRecorded_quiet quiet n d.bowler _ after) room .respot _) rfl
    (reply.trans (congrArg done completed))
  rwa [House.ballRecorded, House.cycleOrdered_setLane _ lane] at answered

end Sys2Proof.Machine
end

section
/-! The score sheet (chapter 3): what each step of recording a ball reads and leaves, the tables of a frame's end, and the
invariant of a game recorded ball by ball, with the statements of one recorded ball and of the bonuses and running totals of
every game. -/

namespace Sys2Proof.Machine

open Sys2Proof

/-! ### Frames of a sheet -/

theorem Sheet.setFrame_frame_same (sh : Sheet) {f : Nat} (inside : 1 ≤ f ∧ f ≤ 10) (r : FrameRecord) :
    (sh.setFrame f r).frame f = r := numGet_numSet_same _ _ _ _ inside

theorem Sheet.setFrame_frame_other (sh : Sheet) {f g : Nat} (other : g ≠ f) (r : FrameRecord) :
    (sh.setFrame f r).frame g = sh.frame g := numGet_numSet_other _ _ _ _ _ other

theorem Sheet.blank_frame (f : Nat) : Sheet.blank.frame f = .blank := numGet_replicate ..

theorem Sheet.frame_outside (sh : Sheet) {f : Nat} (out : ¬(1 ≤ f ∧ f ≤ 10)) : sh.frame f = .blank :=
  numGet_outside _ _ _ out

/-! ### The pending-bonus list (R53) -/

section Closing

variable (frames : Vector FrameRecord 10) (closed : List BonusEntry)

theorem closeEntries_balls (g : Nat) :
    (numGet (closeEntries frames closed) .blank g).balls = (numGet frames .blank g).balls := by
  refine foldl_field (fun fs => (numGet fs .blank g).balls) _ (fun fs e => ?_) closed frames
  rw [numGet_numSet]
  split
  · next here => rw [here.1]
  · rfl

theorem closeEntries_kind (g : Nat) :
    (numGet (closeEntries frames closed) .blank g).kind = (numGet frames .blank g).kind := by
  refine foldl_field (fun fs => (numGet fs .blank g).kind) _ (fun fs e => ?_) closed frames
  rw [numGet_numSet]
  split
  · next here => rw [here.1]
  · rfl

/-- A frame with no entry among those closed keeps its score. -/
theorem closeEntries_score_other {g : Nat} (other : ∀ e ∈ closed, e.frame ≠ g) :
    (numGet (closeEntries frames closed) .blank g).score = (numGet frames .blank g).score := by
  refine foldl_keeps (fun fs => (numGet fs .blank g).score = (numGet frames .blank g).score) _ closed frames rfl
    fun fs e listed kept => ?_
  rw [numGet_numSet_other _ _ _ _ _ (other e listed).symm]
  exact kept

/-- A closed entry gives its frame the score 10 plus its bonus (R53). -/
theorem closeEntries_score_closed (distinct : closed.Pairwise fun a b => a.frame ≠ b.frame) {e : BonusEntry}
    (listed : e ∈ closed) (inside : 1 ≤ e.frame ∧ e.frame ≤ 10) :
    (numGet (closeEntries frames closed) .blank e.frame).score = some (10 + e.bonus) := by
  induction closed generalizing frames with
  | nil => simp at listed
  | cons d rest ih =>
    obtain ⟨apart, distinct⟩ := List.pairwise_cons.1 distinct
    rcases List.mem_cons.1 listed with rfl | later
    · have unclosed := closeEntries_score_other
        (numSet frames e.frame { numGet frames .blank e.frame with score := some (10 + e.bonus) }) rest
        fun x m => (apart x m).symm
      rw [numGet_numSet_same _ _ _ _ inside] at unclosed
      exact unclosed
    · exact ih _ distinct later

/-- Every score after entries are closed was there before or is a closed entry's. -/
theorem closeEntries_score_cases {g x : Nat} (score : (numGet (closeEntries frames closed) .blank g).score = some x) :
    (numGet frames .blank g).score = some x ∨ ∃ e ∈ closed, x = 10 + e.bonus := by
  revert score
  refine foldl_keeps (fun fs => (numGet fs .blank g).score = some x →
    (numGet frames .blank g).score = some x ∨ ∃ e ∈ closed, x = 10 + e.bonus) _ closed frames .inl fun fs e listed known => ?_
  rw [numGet_numSet]
  split
  · exact fun score => .inr ⟨e, listed, (Option.some.inj score).symm⟩
  · exact known

end Closing

/-- The entries that a payment leaves owing no ball. -/
def paidOff (bonuses : List BonusEntry) (pinfall : Nat) : List BonusEntry :=
  (payEntries bonuses pinfall).filter fun e => decide (e.owed = 0)

/-- The entries that still owe a ball after a payment. -/
def stillOwing (bonuses : List BonusEntry) (pinfall : Nat) : List BonusEntry :=
  (payEntries bonuses pinfall).filter fun e => decide (e.owed ≠ 0)

theorem mem_paidOff {bonuses : List BonusEntry} {pinfall : Nat} {e : BonusEntry} :
    e ∈ paidOff bonuses pinfall ↔
      ∃ d ∈ bonuses, d.owed ≤ 1 ∧ { d with owed := d.owed - 1, bonus := d.bonus + pinfall } = e := by
  simp only [paidOff, payEntries, List.mem_filter, List.mem_map, decide_eq_true_eq]
  constructor
  · rintro ⟨⟨d, listed, rfl⟩, owed⟩
    exact ⟨d, listed, Nat.sub_eq_zero_iff_le.1 owed, rfl⟩
  · rintro ⟨d, listed, owed, rfl⟩
    exact ⟨⟨d, listed, rfl⟩, Nat.sub_eq_zero_iff_le.2 owed⟩

theorem mem_stillOwing {bonuses : List BonusEntry} {pinfall : Nat} {e : BonusEntry} :
    e ∈ stillOwing bonuses pinfall ↔
      ∃ d ∈ bonuses, 2 ≤ d.owed ∧ { d with owed := d.owed - 1, bonus := d.bonus + pinfall } = e := by
  simp only [stillOwing, payEntries, List.mem_filter, List.mem_map, decide_eq_true_eq]
  constructor
  · rintro ⟨⟨d, listed, rfl⟩, owed⟩
    exact ⟨d, listed, by simp only at owed; omega, rfl⟩
  · rintro ⟨d, listed, owed, rfl⟩
    exact ⟨⟨d, listed, rfl⟩, by simp only; omega⟩

/-- A payment keeps the entries' frames apart. -/
theorem payEntries_distinct {bonuses : List BonusEntry} (ascending : bonuses.Pairwise fun a b => a.frame < b.frame)
    (pinfall : Nat) : (payEntries bonuses pinfall).Pairwise fun a b => a.frame ≠ b.frame :=
  List.pairwise_map.2 (ascending.imp Nat.ne_of_lt)

theorem paidOff_distinct {bonuses : List BonusEntry} (ascending : bonuses.Pairwise fun a b => a.frame < b.frame)
    (pinfall : Nat) : (paidOff bonuses pinfall).Pairwise fun a b => a.frame ≠ b.frame :=
  (payEntries_distinct ascending pinfall).filter _

theorem stillOwing_distinct {bonuses : List BonusEntry} (ascending : bonuses.Pairwise fun a b => a.frame < b.frame)
    (pinfall : Nat) : (stillOwing bonuses pinfall).Pairwise fun a b => a.frame ≠ b.frame :=
  (payEntries_distinct ascending pinfall).filter _

@[simp] theorem Sheet.pay_frame_balls (sh : Sheet) (p g : Nat) : ((sh.pay p).frame g).balls = (sh.frame g).balls :=
  closeEntries_balls ..
@[simp] theorem Sheet.pay_frame_kind (sh : Sheet) (p g : Nat) : ((sh.pay p).frame g).kind = (sh.frame g).kind :=
  closeEntries_kind ..

theorem Sheet.pay_score_other (sh : Sheet) (p : Nat) {g : Nat} (owing : ∀ e ∈ sh.bonuses, e.frame = g → 2 ≤ e.owed) :
    ((sh.pay p).frame g).score = (sh.frame g).score := by
  refine closeEntries_score_other _ _ fun e closed => ?_
  obtain ⟨d, listed, owed, rfl⟩ := mem_paidOff.1 closed
  exact fun here => absurd (owing d listed here) (by omega)

theorem Sheet.pay_score_closed (sh : Sheet) (p : Nat) (ascending : sh.bonuses.Pairwise fun a b => a.frame < b.frame)
    {e : BonusEntry} (listed : e ∈ sh.bonuses) (inside : 1 ≤ e.frame ∧ e.frame ≤ 10) (owed : e.owed ≤ 1) :
    ((sh.pay p).frame e.frame).score = some (10 + (e.bonus + p)) :=
  closeEntries_score_closed sh.frames _ (paidOff_distinct ascending p) (mem_paidOff.2 ⟨e, listed, owed, rfl⟩) inside

theorem Sheet.pay_score_cases (sh : Sheet) (p : Nat) {g x : Nat} (score : ((sh.pay p).frame g).score = some x) :
    (sh.frame g).score = some x ∨ ∃ e ∈ sh.bonuses, e.owed ≤ 1 ∧ x = 10 + (e.bonus + p) := by
  refine (closeEntries_score_cases _ _ score).imp_right ?_
  rintro ⟨e, closed, rfl⟩
  obtain ⟨d, listed, owed, rfl⟩ := mem_paidOff.1 closed
  exact ⟨d, listed, owed, rfl⟩

/-! ### Running totals (R59) -/

/-- The running total after one frame more: present while the one before it and the frame's score both are. -/
def addScore (sofar : Option Nat) (r : FrameRecord) : Option Nat := sofar.bind fun a => r.score.map (a + ·)

theorem runningFrom_cons (sofar : Option Nat) (r : FrameRecord) (rest : List FrameRecord) :
    runningFrom sofar (r :: rest) = addScore sofar r :: runningFrom (addScore sofar r) rest := by
  cases sofar with
  | none => simp [runningFrom, addScore]
  | some a => cases score : r.score <;> simp [runningFrom, addScore, score]

/-- The total at one place is the sum of the scores up to it. -/
theorem runningFrom_getD (sofar : Option Nat) (frames : List FrameRecord) {i : Nat} (inside : i < frames.length) :
    (runningFrom sofar frames).getD i none = (frames.take (i + 1)).foldl addScore sofar := by
  induction frames generalizing sofar i with
  | nil => simp at inside
  | cons r rest ih =>
    rw [runningFrom_cons]
    cases i with
    | zero => simp
    | succ i => simpa using ih (addScore sofar r) (by simpa using inside)

/-- The running total of frame `f`: the sum of the scores of the frames up to it, while all of them have one. -/
def Sheet.runningTotal (sh : Sheet) (f : Nat) : Option Nat := ((numbers f).map sh.frame).foldl addScore (some 0)

theorem numbers_length (n : Nat) : (numbers n).length = n := by simp [numbers]

theorem Sheet.frames_take (sh : Sheet) {f : Nat} (inside : f ≤ 10) : sh.frames.toList.take f = (numbers f).map sh.frame := by
  refine List.ext_getElem (by simp [numbers, inside]) fun i here there => ?_
  have : i < f := by simpa [numbers] using there
  simp [numbers, Sheet.frame, numGet, show i + 1 ≤ 10 by omega]

theorem foldl_addScore_none (frames : List FrameRecord) : frames.foldl addScore none = none := by
  induction frames with
  | nil => rfl
  | cons r rest ih => exact ih

theorem foldl_addScore (frames : List FrameRecord) (sofar : Nat) :
    frames.foldl addScore (some sofar) =
      if frames.all (·.score.isSome) then some (frames.foldl (fun sum r => sum + r.score.getD 0) sofar) else none := by
  induction frames generalizing sofar with
  | nil => rfl
  | cons r rest ih =>
    cases score : r.score with
    | none => simp [addScore, score, foldl_addScore_none]
    | some x => simp [addScore, score, ih]

theorem Sheet.runningTotal_eq (sh : Sheet) (f : Nat) :
    sh.runningTotal f = if (numbers f).all fun g => (sh.frame g).score.isSome then
      some ((numbers f).foldl (fun sum g => sum + ((sh.frame g).score).getD 0) 0) else none := by
  rw [Sheet.runningTotal, foldl_addScore, List.all_map, List.foldl_map]
  rfl

/-- A sum of scores none of which exceeds 30. -/
theorem foldl_scores_le (sh : Sheet) (bounded : ∀ g x, (sh.frame g).score = some x → x ≤ 30) (fs : List Nat) (sofar : Nat) :
    fs.foldl (fun sum g => sum + ((sh.frame g).score).getD 0) sofar ≤ sofar + 30 * fs.length := by
  induction fs generalizing sofar with
  | nil => simp
  | cons g rest ih =>
    have here : ((sh.frame g).score).getD 0 ≤ 30 := by
      cases score : (sh.frame g).score with
      | none => simp
      | some x => exact bounded g x score
    have := ih (sofar + ((sh.frame g).score).getD 0)
    rw [List.foldl_cons, List.length_cons]
    omega

theorem Sheet.runningTotal_le (sh : Sheet) (bounded : ∀ g x, (sh.frame g).score = some x → x ≤ 30) (f : Nat) :
    (sh.runningTotal f).getD 0 ≤ 30 * f := by
  have sum := foldl_scores_le sh bounded (numbers f) 0
  rw [numbers_length] at sum
  rw [Sheet.runningTotal_eq]
  split
  · simpa using sum
  · simp

/-- Writing the running totals of the frames of a list changes nothing else of them. -/
theorem foldl_writeRunning (totals : Nat → Option Nat) (fs : List Nat) (frames : Vector FrameRecord 10) (g : Nat) :
    numGet (fs.foldl (fun bank f => numSet bank f { numGet bank .blank f with running := totals f }) frames) .blank g =
      if g ∈ fs ∧ 1 ≤ g ∧ g ≤ 10 then { numGet frames .blank g with running := totals g } else numGet frames .blank g := by
  induction fs generalizing frames with
  | nil => simp
  | cons f rest ih =>
    rw [List.foldl_cons, ih, numGet_numSet]
    by_cases here : g = f
    · subst here
      by_cases inside : 1 ≤ g ∧ g ≤ 10 <;> simp [inside]
    · simp [here]

theorem Sheet.total_frame (sh : Sheet) {g : Nat} (inside : 1 ≤ g ∧ g ≤ 10) :
    sh.total.frame g = { sh.frame g with running := sh.runningTotal g } := by
  have totals : (runningFrom (some 0) sh.frames.toList).getD (g - 1) none = sh.runningTotal g := by
    rw [runningFrom_getD _ _ (by simp; omega), Nat.sub_add_cancel inside.1, sh.frames_take inside.2]
    rfl
  rw [← totals]
  refine (foldl_writeRunning (fun f => (runningFrom (some 0) sh.frames.toList).getD (f - 1) none) _ _ g).trans
    (if_pos ⟨(mem_numbers 10 g).2 inside, inside⟩)

@[simp] theorem Sheet.total_bonuses (sh : Sheet) : sh.total.bonuses = sh.bonuses := rfl
@[simp] theorem Sheet.total_current (sh : Sheet) : sh.total.current = sh.current := rfl

/-- Bringing the running totals up to date changes no other field of a frame. -/
theorem Sheet.total_frame_kept (sh : Sheet) (g : Nat) :
    (sh.total.frame g).balls = (sh.frame g).balls ∧ (sh.total.frame g).kind = (sh.frame g).kind ∧
      (sh.total.frame g).score = (sh.frame g).score := by
  by_cases inside : 1 ≤ g ∧ g ≤ 10
  · rw [sh.total_frame inside]; exact ⟨rfl, rfl, rfl⟩
  · rw [sh.frame_outside inside, sh.total.frame_outside inside]; exact ⟨rfl, rfl, rfl⟩

@[simp] theorem Sheet.total_frame_balls (sh : Sheet) (g : Nat) : (sh.total.frame g).balls = (sh.frame g).balls :=
  (sh.total_frame_kept g).1
@[simp] theorem Sheet.total_frame_kind (sh : Sheet) (g : Nat) : (sh.total.frame g).kind = (sh.frame g).kind :=
  (sh.total_frame_kept g).2.1
@[simp] theorem Sheet.total_frame_score (sh : Sheet) (g : Nat) : (sh.total.frame g).score = (sh.frame g).score :=
  (sh.total_frame_kept g).2.2

theorem Sheet.total_runningTotal (sh : Sheet) (f : Nat) : sh.total.runningTotal f = sh.runningTotal f := by
  simp only [Sheet.runningTotal_eq, Sheet.total_frame_score]

/-! ### The end of a frame (R54, R55, R57) -/

section Tables

variable {a b c : BallRecord} {rest balls : List BallRecord}

theorem BallRecord.isStrike_iff : a.isStrike = true ↔ a.foul = false ∧ a.before = fullRack ∧ a.after = noPins := by
  simp [BallRecord.isStrike, and_assoc]

theorem BallRecord.isSpare_iff :
    b.isSpare = true ↔ b.foul = false ∧ b.before ≠ noPins ∧ b.pinfall = pinCount b.before := by
  simp [BallRecord.isSpare, and_assoc]

theorem pinfalls_eq_sum (balls : List BallRecord) : pinfalls balls = (balls.map (·.pinfall)).sum :=
  List.sum_eq_foldl.symm

theorem earlyFrame_one (a : BallRecord) : earlyFrame [a] =
    if a.isStrike then .ends .strike none (some 2)
    else if !a.foul && decide (a.after = noPins) then .ends .openFrame (some a.pinfall) none
    else if a.foul && decide (a.before = noPins) then .ends .openFrame (some 0) none
    else .continues := rfl

theorem earlyFrame_two (a b : BallRecord) : earlyFrame [a, b] =
    if b.isSpare then .ends .spare none (some 1) else .ends .openFrame (some (a.pinfall + b.pinfall)) none := by
  simp [earlyFrame, pinfalls_eq_sum]

/-- Frames 1 to 9 by their ball 1 (R54) and their ball 2 (R55). -/
theorem earlyFrame_table (a b : BallRecord) :
    (a.foul = false → a.before = fullRack → a.after = noPins → earlyFrame [a] = .ends .strike none (some 2)) ∧
    (a.foul = false → a.before ≠ fullRack → a.after = noPins → earlyFrame [a] = .ends .openFrame (some a.pinfall) none) ∧
    (a.foul = true → a.before = noPins → earlyFrame [a] = .ends .openFrame (some 0) none) ∧
    (a.foul = false → a.after ≠ noPins → earlyFrame [a] = .continues) ∧
    (a.foul = true → a.before ≠ noPins → earlyFrame [a] = .continues) ∧
    (b.foul = false → b.before ≠ noPins → b.pinfall = pinCount b.before → earlyFrame [a, b] = .ends .spare none (some 1)) ∧
    (b.foul = true ∨ b.before = noPins ∨ b.pinfall ≠ pinCount b.before →
      earlyFrame [a, b] = .ends .openFrame (some (a.pinfall + b.pinfall)) none) := by
  refine ⟨fun clean full cleared => ?_, fun clean short cleared => ?_, fun foul empty => ?_, fun clean standing => ?_,
    fun foul standing => ?_, fun clean owed all => ?_, fun notSpare => ?_⟩
  · rw [earlyFrame_one, if_pos (BallRecord.isStrike_iff.2 ⟨clean, full, cleared⟩)]
  · simp [earlyFrame_one, BallRecord.isStrike_iff, clean, short, cleared]
  · simp [earlyFrame_one, BallRecord.isStrike_iff, foul, empty]
  · simp [earlyFrame_one, BallRecord.isStrike_iff, clean, standing]
  · simp [earlyFrame_one, BallRecord.isStrike_iff, foul, standing]
  · rw [earlyFrame_two, if_pos (BallRecord.isSpare_iff.2 ⟨clean, owed, all⟩)]
  · rw [earlyFrame_two, if_neg fun spare => ?_]
    obtain ⟨clean, owed, all⟩ := BallRecord.isSpare_iff.1 spare
    simp [clean, owed, all] at notSpare

theorem tenthKind_strike (strike : a.isStrike = true) : tenthKind (a :: rest) = .strike := if_pos strike

theorem tenthKind_spare (notStrike : a.isStrike = false) (spare : b.isSpare = true) :
    tenthKind (a :: b :: rest) = .spare := by simp [tenthKind, notStrike, spare]

theorem tenthKind_open (notStrike : a.isStrike = false) (notSpare : b.isSpare = false) :
    tenthKind (a :: b :: rest) = .openFrame := by simp [tenthKind, notStrike, notSpare]

theorem tenthKind_one_open (notStrike : a.isStrike = false) : tenthKind [a] = .openFrame := by simp [tenthKind, notStrike]

theorem tenthFrame_ends (enough : tenthEndsEarly balls = true ∨ tenthBalls (tenthKind balls) ≤ balls.length) :
    tenthFrame balls = .ends (tenthKind balls) (some (pinfalls balls)) none := by
  simp [tenthFrame, enough]

theorem tenthFrame_continues (goesOn : tenthEndsEarly balls = false)
    (owed : balls.length < tenthBalls (tenthKind balls)) : tenthFrame balls = .continues := by
  simp [tenthFrame, goesOn, owed]

/-- Frame 10 by its ball 1 (R57). -/
theorem tenthFrame_first (a : BallRecord) :
    (a.foul = false → a.before ≠ fullRack → a.after = noPins →
      tenthFrame [a] = .ends .openFrame (some a.pinfall) none) ∧
    (a.foul = true → a.before = noPins → tenthFrame [a] = .ends .openFrame (some a.pinfall) none) ∧
    (a.isStrike = true ∨ a.foul = false ∧ a.after ≠ noPins ∨ a.foul = true ∧ a.before ≠ noPins →
      tenthFrame [a] = .continues) := by
  refine ⟨fun clean short cleared => ?_, fun foul empty => ?_, fun goesOn => ?_⟩
  · have notStrike : a.isStrike = false := by simp [BallRecord.isStrike, short]
    rw [tenthFrame_ends (.inl (by simp [tenthEndsEarly, clean, short, cleared])), tenthKind_one_open notStrike]
    simp [pinfalls]
  · have notStrike : a.isStrike = false := by simp [BallRecord.isStrike, foul]
    rw [tenthFrame_ends (.inl (by simp [tenthEndsEarly, foul, empty])), tenthKind_one_open notStrike]
    simp [pinfalls]
  · have owed : [a].length < tenthBalls (tenthKind [a]) := by unfold tenthBalls; split <;> simp
    refine tenthFrame_continues ?_ owed
    rw [BallRecord.isStrike_iff] at goesOn
    rcases goesOn with ⟨clean, full, _⟩ | ⟨clean, standing⟩ | ⟨foul, standing⟩
    · simp [tenthEndsEarly, clean, full]
    · simp [tenthEndsEarly, clean, standing]
    · simp [tenthEndsEarly, foul, standing]

/-- Frame 10 after a strike (R57). -/
theorem tenthFrame_strike (strike : a.isStrike = true) (b c : BallRecord) :
    (¬(b.foul = true ∧ b.before = noPins) → tenthFrame [a, b] = .continues) ∧
    (b.foul = true ∧ b.before = noPins → tenthFrame [a, b] = .ends .strike (some (a.pinfall + b.pinfall)) none) ∧
    tenthFrame [a, b, c] = .ends .strike (some (a.pinfall + b.pinfall + c.pinfall)) none := by
  refine ⟨fun alive => tenthFrame_continues ?_ ?_, fun dead => ?_, ?_⟩
  · simpa [tenthEndsEarly] using alive
  · simp [tenthKind_strike strike, tenthBalls]
  · rw [tenthFrame_ends (.inl (by simpa [tenthEndsEarly] using dead)), tenthKind_strike strike]
    simp [pinfalls]
  · rw [tenthFrame_ends (.inr (by simp [tenthKind_strike strike, tenthBalls])), tenthKind_strike strike]
    simp [pinfalls]

/-- Frame 10 after a ball 1 that is no strike (R57). -/
theorem tenthFrame_not_strike (notStrike : a.isStrike = false) (b c : BallRecord) :
    (b.isSpare = true → tenthFrame [a, b] = .continues ∧
      tenthFrame [a, b, c] = .ends .spare (some (a.pinfall + b.pinfall + c.pinfall)) none) ∧
    (b.isSpare = false → tenthFrame [a, b] = .ends .openFrame (some (a.pinfall + b.pinfall)) none) := by
  refine ⟨fun spare => ⟨tenthFrame_continues ?_ ?_, ?_⟩, fun notSpare => ?_⟩
  · simp [tenthEndsEarly, (BallRecord.isSpare_iff.1 spare).1]
  · simp [tenthKind_spare notStrike spare, tenthBalls]
  · rw [tenthFrame_ends (.inr (by simp [tenthKind_spare notStrike spare, tenthBalls])), tenthKind_spare notStrike spare]
    simp [pinfalls]
  · rw [tenthFrame_ends (.inr (by simp [tenthKind_open notStrike notSpare, tenthBalls])), tenthKind_open notStrike notSpare]
    simp [pinfalls]

/-! What every frame's end has in common: how many balls it goes on with, and the score and the entry it ends with. -/

theorem earlyFrame_length_of_continues (goesOn : earlyFrame balls = .continues) : balls.length = 1 := by
  unfold earlyFrame at goesOn
  split at goesOn
  · rfl
  · split at goesOn <;> simp at goesOn
  · simp at goesOn

theorem tenthFrame_length_of_continues (goesOn : tenthFrame balls = .continues) : balls.length ≤ 2 := by
  have owed : balls.length < tenthBalls (tenthKind balls) := by
    refine Nat.lt_of_not_le fun enough => ?_
    rw [tenthFrame_ends (.inr enough)] at goesOn
    cases goesOn
  have three : tenthBalls (tenthKind balls) ≤ 3 := by unfold tenthBalls; split <;> omega
  omega

theorem frameOutcome_length_of_continues {f : Nat} (goesOn : frameOutcome f balls = .continues) : balls.length ≤ 2 := by
  unfold frameOutcome at goesOn
  split at goesOn
  · exact tenthFrame_length_of_continues goesOn
  · have := earlyFrame_length_of_continues goesOn
    omega

theorem earlyFrame_of_ends {kind : FrameKind} {score owed : Option Nat} (ends : earlyFrame balls = .ends kind score owed) :
    (∀ x, score = some x → x ≤ pinfalls balls) ∧ ∀ n, owed = some n → 1 ≤ n ∧ n ≤ 2 := by
  unfold earlyFrame at ends
  repeat' split at ends
  all_goals cases ends
  all_goals simp [pinfalls]

theorem tenthFrame_of_ends {kind : FrameKind} {score owed : Option Nat} (ends : tenthFrame balls = .ends kind score owed) :
    score = some (pinfalls balls) ∧ owed = none := by
  unfold tenthFrame at ends
  split at ends
  · cases ends; exact ⟨rfl, rfl⟩
  · cases ends

theorem frameOutcome_score_le {f : Nat} {kind : FrameKind} {x : Nat} {owed : Option Nat}
    (ends : frameOutcome f balls = .ends kind (some x) owed) : x ≤ pinfalls balls := by
  unfold frameOutcome at ends
  split at ends
  · exact Nat.le_of_eq (Option.some.inj (tenthFrame_of_ends ends).1)
  · exact (earlyFrame_of_ends ends).1 x rfl

end Tables

/-! ### One recorded ball (R51 to R58) -/

/-- The balls of the current frame with one more. -/
def Sheet.ballsWith (sh : Sheet) (b : BallRecord) : List BallRecord := (sh.frame sh.current).balls ++ [b]

/-- The sheet after a ball that leaves its frame open, its running totals apart. -/
def Sheet.frameGoesOn (sh : Sheet) (b : BallRecord) : Sheet :=
  (sh.pay b.pinfall).setFrame sh.current { (sh.pay b.pinfall).frame sh.current with balls := sh.ballsWith b }

/-- The sheet with a ball paid and put in the current frame, which it ends. -/
def Sheet.frameClosed (sh : Sheet) (b : BallRecord) (kind : FrameKind) (score : Option Nat) : Sheet :=
  (sh.pay b.pinfall).setFrame sh.current
    { (sh.pay b.pinfall).frame sh.current with balls := sh.ballsWith b, kind := some kind, score := score }

/-- The sheet after a ball that ends its frame, its running totals apart. -/
def Sheet.frameEnds (sh : Sheet) (b : BallRecord) (kind : FrameKind) (score owed : Option Nat) : Sheet :=
  ((sh.frameClosed b kind score).owe sh.current owed).endFrame

/-- The ball record of a ball handed to the sheet (R51, R52). -/
def Sheet.trimmed (sh : Sheet) (before after : PinSet) (foul : Bool) (speed : Option Half) : BallRecord :=
  trimBall sh.owed before after foul speed

section Recording

variable {sh : Sheet} {b : BallRecord} {kind : FrameKind} {score owed : Option Nat}

theorem Sheet.record_of_continues {before after : PinSet} {foul : Bool} {speed : Option Half}
    (goesOn : frameOutcome sh.current (sh.ballsWith (sh.trimmed before after foul speed)) = .continues) :
    sh.record before after foul speed = ((sh.frameGoesOn (sh.trimmed before after foul speed)).total, false) := by
  simp only [Sheet.ballsWith, Sheet.trimmed] at goesOn
  simp only [Sheet.record, Sheet.pay_frame_balls, goesOn]
  rfl

theorem Sheet.record_of_ends {before after : PinSet} {foul : Bool} {speed : Option Half}
    (ends : frameOutcome sh.current (sh.ballsWith (sh.trimmed before after foul speed)) = .ends kind score owed) :
    sh.record before after foul speed =
      ((sh.frameEnds (sh.trimmed before after foul speed) kind score owed).total, true) := by
  simp only [Sheet.ballsWith, Sheet.trimmed] at ends
  simp only [Sheet.record, Sheet.pay_frame_balls, ends]
  rfl

/-! A frame that goes on. -/

@[simp] theorem Sheet.frameGoesOn_current : (sh.frameGoesOn b).current = sh.current := rfl

theorem Sheet.frameGoesOn_frame_same (inside : 1 ≤ sh.current ∧ sh.current ≤ 10) :
    (sh.frameGoesOn b).frame sh.current =
      { (sh.pay b.pinfall).frame sh.current with balls := sh.ballsWith b } := Sheet.setFrame_frame_same _ inside _

theorem Sheet.frameGoesOn_frame_other {g : Nat} (other : g ≠ sh.current) :
    (sh.frameGoesOn b).frame g = (sh.pay b.pinfall).frame g := Sheet.setFrame_frame_other _ other _

/-- A ball that leaves its frame open ends no frame and scores none but those its payment scores. -/
theorem Sheet.frameGoesOn_kept (inside : 1 ≤ sh.current ∧ sh.current ≤ 10) (g : Nat) :
    ((sh.frameGoesOn b).frame g).kind = (sh.frame g).kind ∧
      ((sh.frameGoesOn b).frame g).score = ((sh.pay b.pinfall).frame g).score := by
  by_cases here : g = sh.current
  · rw [here, Sheet.frameGoesOn_frame_same inside]
    exact ⟨Sheet.pay_frame_kind .., rfl⟩
  · rw [Sheet.frameGoesOn_frame_other here]
    exact ⟨Sheet.pay_frame_kind .., rfl⟩

/-! A frame that ends: its own record, the entry it appends, and for frame 10 the closing of the list. -/

@[simp] theorem Sheet.frameClosed_current : (sh.frameClosed b kind score).current = sh.current := rfl
@[simp] theorem Sheet.frameClosed_bonuses : (sh.frameClosed b kind score).bonuses = stillOwing sh.bonuses b.pinfall := rfl

theorem Sheet.frameClosed_frame_same (inside : 1 ≤ sh.current ∧ sh.current ≤ 10) :
    (sh.frameClosed b kind score).frame sh.current =
      { (sh.pay b.pinfall).frame sh.current with balls := sh.ballsWith b, kind := some kind, score := score } :=
  Sheet.setFrame_frame_same _ inside _

theorem Sheet.frameClosed_frame_other {g : Nat} (other : g ≠ sh.current) :
    (sh.frameClosed b kind score).frame g = (sh.pay b.pinfall).frame g := Sheet.setFrame_frame_other _ other _

/-- The entry a frame appends, if it appends one (R54, R55). -/
def appended (f : Nat) (owed : Option Nat) : List BonusEntry := (owed.map fun n => ⟨f, n, 0⟩).toList

@[simp] theorem Sheet.owe_current (f : Nat) (owed : Option Nat) : (sh.owe f owed).current = sh.current := by
  cases owed <;> rfl
@[simp] theorem Sheet.owe_frames (f : Nat) (owed : Option Nat) : (sh.owe f owed).frames = sh.frames := by
  cases owed <;> rfl
@[simp] theorem Sheet.owe_bonuses (f : Nat) (owed : Option Nat) : (sh.owe f owed).bonuses = sh.bonuses ++ appended f owed := by
  cases owed
  · exact (List.append_nil _).symm
  · rfl

/-- A frame of 1 to 9 moves the current frame on and closes nothing (R56). -/
theorem Sheet.frameEnds_early (early : sh.current < 10) :
    (sh.frameEnds b kind score owed).current = sh.current + 1 ∧
      (sh.frameEnds b kind score owed).bonuses = stillOwing sh.bonuses b.pinfall ++ appended sh.current owed ∧
      ∀ g, (sh.frameEnds b kind score owed).frame g = (sh.frameClosed b kind score).frame g := by
  have ended : sh.frameEnds b kind score owed =
      { (sh.frameClosed b kind score).owe sh.current owed with current := sh.current + 1 } := by
    rw [Sheet.frameEnds, Sheet.endFrame, if_neg (by simpa using Nat.ne_of_lt early), Sheet.owe_current]
    rfl
  rw [ended]
  exact ⟨rfl, by simp, fun g => by simp [Sheet.frame]⟩

/-- The end of frame 10 closes every entry that is still owed balls (R58). -/
theorem Sheet.frameEnds_tenth (tenth : sh.current = 10) :
    (sh.frameEnds b kind score none).current = 10 ∧ (sh.frameEnds b kind score none).bonuses = [] ∧
      (sh.frameEnds b kind score none).frames =
        closeEntries (sh.frameClosed b kind score).frames (stillOwing sh.bonuses b.pinfall) := by
  have ended : sh.frameEnds b kind score none = { sh.frameClosed b kind score with
      frames := closeEntries (sh.frameClosed b kind score).frames (stillOwing sh.bonuses b.pinfall), bonuses := [] } :=
    if_pos tenth
  rw [ended]
  exact ⟨tenth, rfl, rfl⟩

/-- The end of a frame by the tables: what frame 10 appends is nothing. -/
theorem frameOutcome_tenth_of_ends {balls : List BallRecord} (ends : frameOutcome 10 balls = .ends kind score owed) :
    owed = none := (tenthFrame_of_ends ends).2

/-- The end of a frame leaves the balls and kinds of all frames as its closing put them. -/
theorem Sheet.frameEnds_kept (inside : 1 ≤ sh.current ∧ sh.current ≤ 10)
    (ends : frameOutcome sh.current (sh.ballsWith b) = .ends kind score owed) (g : Nat) :
    ((sh.frameEnds b kind score owed).frame g).balls = ((sh.frameClosed b kind score).frame g).balls ∧
      ((sh.frameEnds b kind score owed).frame g).kind = ((sh.frameClosed b kind score).frame g).kind := by
  by_cases tenth : sh.current = 10
  · rw [tenth] at ends
    obtain rfl := frameOutcome_tenth_of_ends ends
    rw [Sheet.frame, (Sheet.frameEnds_tenth tenth).2.2]
    exact ⟨closeEntries_balls .., closeEntries_kind ..⟩
  · obtain ⟨-, -, frames⟩ := Sheet.frameEnds_early (b := b) (kind := kind) (score := score) (owed := owed)
      (sh := sh) (by omega)
    rw [frames]
    exact ⟨rfl, rfl⟩

/-- A frame with no entry left to close keeps the score its closing gave it. -/
theorem Sheet.frameEnds_score_kept (inside : 1 ≤ sh.current ∧ sh.current ≤ 10)
    (ends : frameOutcome sh.current (sh.ballsWith b) = .ends kind score owed) {g : Nat}
    (unclosed : sh.current < 10 ∨ ∀ e ∈ sh.bonuses, e.frame = g → e.owed ≤ 1) :
    ((sh.frameEnds b kind score owed).frame g).score = ((sh.frameClosed b kind score).frame g).score := by
  by_cases tenth : sh.current = 10
  · rw [tenth] at ends
    obtain rfl := frameOutcome_tenth_of_ends ends
    rw [Sheet.frame, (Sheet.frameEnds_tenth tenth).2.2]
    refine closeEntries_score_other _ _ fun e owing => ?_
    obtain ⟨d, listed, owed, rfl⟩ := mem_stillOwing.1 owing
    exact fun here => absurd (unclosed.resolve_left (by omega) d listed here) (by omega)
  · rw [(Sheet.frameEnds_early (by omega)).2.2]

/-- An entry still owed a ball is closed with the end of frame 10 (R58). -/
theorem Sheet.frameEnds_score_closed (ascending : sh.bonuses.Pairwise fun a b => a.frame < b.frame)
    (tenth : sh.current = 10) {e : BonusEntry} (listed : e ∈ sh.bonuses) (inside : 1 ≤ e.frame ∧ e.frame ≤ 10)
    (owing : 2 ≤ e.owed) :
    ((sh.frameEnds b kind score none).frame e.frame).score = some (10 + (e.bonus + b.pinfall)) := by
  rw [Sheet.frame, (Sheet.frameEnds_tenth tenth).2.2]
  exact closeEntries_score_closed _ _ (stillOwing_distinct ascending _) (mem_stillOwing.2 ⟨e, listed, owing, rfl⟩) inside

/-- In an ascending list an entry is told by its frame. -/
theorem bonus_eq_of_frame {bonuses : List BonusEntry} (ascending : bonuses.Pairwise fun a b => a.frame < b.frame)
    {d e : BonusEntry} (hd : d ∈ bonuses) (he : e ∈ bonuses) (same : d.frame = e.frame) : d = e := by
  induction ascending with
  | nil => cases hd
  | cons apart _ ih =>
    rcases List.mem_cons.1 hd with rfl | laterD
    · rcases List.mem_cons.1 he with rfl | laterE
      · rfl
      · exact absurd same (Nat.ne_of_lt (apart e laterE))
    · rcases List.mem_cons.1 he with rfl | laterE
      · exact absurd same (Nat.ne_of_gt (apart d laterD))
      · exact ih laterD laterE

end Recording

/-! ### The recorded ball, its frame and the frames it scores -/

section Recorded

variable {sh : Sheet} {before after : PinSet} {foul : Bool} {speed : Option Half}

/-- A ball is recorded in a frame that goes on or in one that ends. -/
theorem Sheet.record_cases (sh : Sheet) (before after : PinSet) (foul : Bool) (speed : Option Half) :
    (frameOutcome sh.current (sh.ballsWith (sh.trimmed before after foul speed)) = .continues ∧
      sh.record before after foul speed = ((sh.frameGoesOn (sh.trimmed before after foul speed)).total, false)) ∨
    ∃ kind score owed,
      frameOutcome sh.current (sh.ballsWith (sh.trimmed before after foul speed)) = .ends kind score owed ∧
      sh.record before after foul speed =
        ((sh.frameEnds (sh.trimmed before after foul speed) kind score owed).total, true) := by
  cases outcome : frameOutcome sh.current (sh.ballsWith (sh.trimmed before after foul speed)) with
  | continues => exact .inl ⟨rfl, Sheet.record_of_continues outcome⟩
  | ends kind score owed => exact .inr ⟨kind, score, owed, rfl, Sheet.record_of_ends outcome⟩

variable (inside : 1 ≤ sh.current ∧ sh.current ≤ 10)

include inside

theorem Sheet.record_balls :
    ((sh.record before after foul speed).1.frame sh.current).balls =
      sh.ballsWith (sh.trimmed before after foul speed) := by
  rcases sh.record_cases before after foul speed with ⟨-, recorded⟩ | ⟨kind, score, owed, ends, recorded⟩
  · rw [recorded, Sheet.total_frame_balls, Sheet.frameGoesOn_frame_same inside]
  · rw [recorded, Sheet.total_frame_balls, (Sheet.frameEnds_kept inside ends _).1, Sheet.frameClosed_frame_same inside]

theorem Sheet.record_other {g : Nat} (other : g ≠ sh.current) :
    ((sh.record before after foul speed).1.frame g).balls = (sh.frame g).balls ∧
      ((sh.record before after foul speed).1.frame g).kind = (sh.frame g).kind := by
  rcases sh.record_cases before after foul speed with ⟨-, recorded⟩ | ⟨kind, score, owed, ends, recorded⟩
  · rw [recorded, Sheet.total_frame_balls, Sheet.total_frame_kind, Sheet.frameGoesOn_frame_other other]
    exact ⟨Sheet.pay_frame_balls .., Sheet.pay_frame_kind ..⟩
  · obtain ⟨balls, kinds⟩ := Sheet.frameEnds_kept inside ends g
    rw [recorded, Sheet.total_frame_balls, Sheet.total_frame_kind, balls, kinds, Sheet.frameClosed_frame_other other]
    exact ⟨Sheet.pay_frame_balls .., Sheet.pay_frame_kind ..⟩

theorem Sheet.record_of_frame_open
    (goesOn : frameOutcome sh.current (sh.ballsWith (sh.trimmed before after foul speed)) = .continues) :
    let r := sh.record before after foul speed
    r.2 = false ∧ r.1.current = sh.current ∧
      r.1.bonuses = stillOwing sh.bonuses (sh.trimmed before after foul speed).pinfall ∧
      (r.1.frame sh.current).kind = (sh.frame sh.current).kind := by
  simp only [Sheet.record_of_continues goesOn, Sheet.total_frame_kind, (Sheet.frameGoesOn_kept inside sh.current).1]
  exact ⟨trivial, rfl, rfl, trivial⟩

/-- A ball that ends its frame gives it its kind and score, and moves on or closes the list (R53 to R58). -/
theorem Sheet.record_of_frame_ended {kind : FrameKind} {score owed : Option Nat}
    (ends : frameOutcome sh.current (sh.ballsWith (sh.trimmed before after foul speed)) = .ends kind score owed) :
    let r := sh.record before after foul speed
    r.2 = true ∧ (r.1.frame sh.current).kind = some kind ∧
      ((∀ e ∈ sh.bonuses, e.frame < sh.current) → (r.1.frame sh.current).score = score) ∧
      (sh.current < 10 → r.1.current = sh.current + 1 ∧ r.1.bonuses =
        stillOwing sh.bonuses (sh.trimmed before after foul speed).pinfall ++ appended sh.current owed) ∧
      (sh.current = 10 → r.1.current = 10 ∧ r.1.bonuses = []) := by
  simp only [Sheet.record_of_ends ends, Sheet.total_frame_kind, Sheet.total_frame_score, Sheet.total_current,
    Sheet.total_bonuses]
  refine ⟨trivial, ?_, fun earlier => ?_, fun early => ?_, fun tenth => ?_⟩
  · rw [(Sheet.frameEnds_kept inside ends _).2, Sheet.frameClosed_frame_same inside]
  · rw [Sheet.frameEnds_score_kept inside ends (.inr fun e listed here => absurd (earlier e listed) (by omega)),
      Sheet.frameClosed_frame_same inside]
  · obtain ⟨current, bonuses, -⟩ := Sheet.frameEnds_early early
    exact ⟨current, bonuses⟩
  · rw [tenth] at ends
    obtain rfl := frameOutcome_tenth_of_ends ends
    obtain ⟨current, bonuses, -⟩ := Sheet.frameEnds_tenth tenth
    exact ⟨current, bonuses⟩

/-- An entry that the ball leaves owing nothing, or that the end of frame 10 closes, scores its frame (R53, R58). -/
theorem Sheet.record_score_closed (ascending : sh.bonuses.Pairwise fun a b => a.frame < b.frame)
    (earlier : ∀ e ∈ sh.bonuses, 1 ≤ e.frame ∧ e.frame < sh.current) {e : BonusEntry} (listed : e ∈ sh.bonuses)
    (closes : e.owed ≤ 1 ∨ sh.current = 10 ∧ (sh.record before after foul speed).2 = true) :
    ((sh.record before after foul speed).1.frame e.frame).score =
      some (10 + (e.bonus + (sh.trimmed before after foul speed).pinfall)) := by
  have place := earlier e listed
  have other : e.frame ≠ sh.current := Nat.ne_of_lt place.2
  have numbered : 1 ≤ e.frame ∧ e.frame ≤ 10 := by omega
  rcases sh.record_cases before after foul speed with ⟨-, recorded⟩ | ⟨kind, score, owed, ends, recorded⟩
  · have paid : e.owed ≤ 1 := closes.resolve_right (by simp [recorded])
    rw [recorded, Sheet.total_frame_score, Sheet.frameGoesOn_frame_other other,
      Sheet.pay_score_closed sh _ ascending listed numbered paid]
  · rw [recorded, Sheet.total_frame_score]
    by_cases paid : e.owed ≤ 1
    · have alone : ∀ d ∈ sh.bonuses, d.frame = e.frame → d.owed ≤ 1 := fun d hd same =>
        bonus_eq_of_frame ascending hd listed same ▸ paid
      rw [Sheet.frameEnds_score_kept inside ends (.inr alone), Sheet.frameClosed_frame_other other,
        Sheet.pay_score_closed sh _ ascending listed numbered paid]
    · obtain ⟨tenth, -⟩ := closes.resolve_left paid
      rw [tenth] at ends
      obtain rfl := frameOutcome_tenth_of_ends ends
      exact Sheet.frameEnds_score_closed ascending tenth listed numbered (by omega)

/-- A frame whose entry still owes two balls, or that has none, keeps its score unless frame 10 ends. -/
theorem Sheet.record_score_other (unclosed : (sh.record before after foul speed).2 = false ∨ sh.current < 10) {g : Nat}
    (other : g ≠ sh.current) (owing : ∀ e ∈ sh.bonuses, e.frame = g → 2 ≤ e.owed) :
    ((sh.record before after foul speed).1.frame g).score = (sh.frame g).score := by
  rcases sh.record_cases before after foul speed with ⟨-, recorded⟩ | ⟨kind, score, owed, ends, recorded⟩
  · rw [recorded, Sheet.total_frame_score, Sheet.frameGoesOn_frame_other other, Sheet.pay_score_other sh _ owing]
  · have early : sh.current < 10 := unclosed.resolve_left (by simp [recorded])
    rw [recorded, Sheet.total_frame_score, Sheet.frameEnds_score_kept inside ends (.inl early),
      Sheet.frameClosed_frame_other other, Sheet.pay_score_other sh _ owing]

end Recorded

/-- Settles O31: the ball and its frame by the lemmas of `Sheet.record`, the ends of frames by the tables. -/
theorem recordedBallsAreCreditedAndEndTheirFrames : Obligations.RecordedBallsAreCreditedAndEndTheirFrames := by
  refine ⟨fun sh before after foul speed low high => ?_, earlyFrame_table, fun a b c => ?_⟩
  · have inside : 1 ≤ sh.current ∧ sh.current ≤ 10 := ⟨low, high⟩
    refine ⟨Sheet.record_balls inside, fun g other => Sheet.record_other inside other,
      fun goesOn => Sheet.record_of_frame_open inside goesOn, fun kind score owed ends => ?_,
      fun ascending earlier => ⟨fun e listed closes => Sheet.record_score_closed inside ascending earlier listed closes,
        fun unclosed g other owing => Sheet.record_score_other inside unclosed other owing⟩⟩
    obtain ⟨ended, kinds, scores, early, tenth⟩ := Sheet.record_of_frame_ended inside ends
    refine ⟨ended, kinds, scores, fun under => ?_, tenth⟩
    obtain ⟨current, bonuses⟩ := early under
    refine ⟨current, bonuses.trans ?_⟩
    cases owed <;> rfl
  · have strikeIff := BallRecord.isStrike_iff (a := a)
    have spareIff := BallRecord.isSpare_iff (b := b)
    obtain ⟨short, dead, goesOn⟩ := tenthFrame_first a
    refine ⟨short, fun ⟨foul, empty⟩ => dead foul empty, fun first => goesOn (first.imp_left strikeIff.2),
      fun strike => (tenthFrame_strike (strikeIff.2 strike) b c).1,
      fun strike => (tenthFrame_strike (strikeIff.2 strike) b c).2.1, fun notStrike spare => ?_,
      fun notStrike notSpare => ?_, fun strike => (tenthFrame_strike (strikeIff.2 strike) b c).2.2,
      fun notStrike spare => ?_⟩
    all_goals have other : a.isStrike = false := Bool.eq_false_iff.2 (mt strikeIff.1 notStrike)
    · exact ((tenthFrame_not_strike other b c).1 (spareIff.2 spare)).1
    · exact (tenthFrame_not_strike other b c).2 (Bool.eq_false_iff.2 (mt spareIff.1 notSpare))
    · exact ((tenthFrame_not_strike other b c).1 (spareIff.2 spare)).2

/-! ### Games recorded ball by ball (R53, R58, R59) -/

/-- The pending-bonus list of a sheet whose current frame is `current`: at most two entries, in ascending order of frame,
of which only the newest may owe two balls, and none with more bonus than its paid balls can have brought. -/
structure BonusesFit (current : Nat) (bonuses : List BonusEntry) : Prop where
  few : bonuses.length ≤ 2
  ascending : bonuses.Pairwise fun a b => a.frame < b.frame ∧ a.owed = 1
  frames : ∀ e ∈ bonuses, 1 ≤ e.frame ∧ e.frame < current
  owing : ∀ e ∈ bonuses, 1 ≤ e.owed ∧ e.owed ≤ 2
  bounded : ∀ e ∈ bonuses, e.bonus + 10 * e.owed ≤ 20

section Bonuses

variable {current : Nat} {bonuses : List BonusEntry} {pinfall : Nat}

theorem BonusesFit.nil (current : Nat) : BonusesFit current [] := by constructor <;> simp

/-- After a payment only the newest entry is left, and it owes one ball. -/
theorem BonusesFit.stillOwing_cases (fit : BonusesFit current bonuses) (ten : pinfall ≤ 10) :
    stillOwing bonuses pinfall = [] ∨ ∃ e, stillOwing bonuses pinfall = [e] ∧ 1 ≤ e.frame ∧ e.frame < current ∧
      e.owed = 1 ∧ e.bonus ≤ 10 := by
  have newest : ∀ e ∈ stillOwing bonuses pinfall, 1 ≤ e.frame ∧ e.frame < current ∧ e.owed = 1 ∧ e.bonus ≤ 10 := by
    intro e still
    obtain ⟨d, listed, owed, rfl⟩ := mem_stillOwing.1 still
    have frame := fit.frames d listed
    have owing := fit.owing d listed
    have bounded := fit.bounded d listed
    exact ⟨frame.1, frame.2, by simp only; omega, by simp only; omega⟩
  have alone : (stillOwing bonuses pinfall).length ≤ 1 := by
    match bonuses, fit with
    | [], _ => simp [stillOwing, payEntries]
    | [d], _ => exact Nat.le_trans (List.length_filter_le ..) (by simp [payEntries])
    | [d, e], fit =>
      have older : d.owed = 1 := ((List.pairwise_cons.1 fit.ascending).1 e (by simp)).2
      simpa [stillOwing, payEntries, older] using List.length_filter_le _ [_]
    | _ :: _ :: _ :: _, fit => exact absurd fit.few (by simp)
  match still : stillOwing bonuses pinfall, alone with
  | [], _ => exact .inl rfl
  | [e], _ => exact .inr ⟨e, rfl, newest e (by simp [still])⟩

theorem BonusesFit.paid (fit : BonusesFit current bonuses) (ten : pinfall ≤ 10) :
    BonusesFit current (stillOwing bonuses pinfall) := by
  rcases fit.stillOwing_cases ten with empty | ⟨e, one, low, high, owed, bounded⟩
  · rw [empty]; exact .nil _
  · rw [one]
    constructor <;> simp only [List.length_singleton, List.pairwise_singleton, List.mem_singleton, forall_eq] <;> omega

/-- A payment keeps the list fit, and what a frame that ends appends keeps it so for the next frame. -/
theorem BonusesFit.paid_appended (fit : BonusesFit current bonuses) (ten : pinfall ≤ 10) (low : 1 ≤ current)
    {owed : Option Nat} (few : ∀ n, owed = some n → 1 ≤ n ∧ n ≤ 2) :
    BonusesFit (current + 1) (stillOwing bonuses pinfall ++ appended current owed) := by
  have extra : ∀ x ∈ appended current owed, x.frame = current ∧ 1 ≤ x.owed ∧ x.owed ≤ 2 ∧ x.bonus = 0 := by
    cases owed with
    | none => simp [appended]
    | some n => simpa [appended] using few n rfl
  have one : (appended current owed).length ≤ 1 := by cases owed <;> simp [appended]
  have older := fit.paid ten
  have left : (stillOwing bonuses pinfall).length ≤ 1 ∧ ∀ e ∈ stillOwing bonuses pinfall, e.owed = 1 := by
    rcases fit.stillOwing_cases ten with empty | ⟨e, single, -, -, owed, -⟩
    · simp [empty]
    · simp [single, owed]
  constructor
  · rw [List.length_append]; omega
  · refine List.pairwise_append.2 ⟨older.ascending, ?_, fun e he x hx => ⟨?_, left.2 e he⟩⟩
    · cases owed <;> simp [appended]
    · rw [(extra x hx).1]; exact (older.frames e he).2
  all_goals
    intro e listed
    rcases List.mem_append.1 listed with he | hx
  · have := older.frames e he; omega
  · have := extra e hx; omega
  · exact older.owing e he
  · have := extra e hx; omega
  · exact older.bounded e he
  · have := extra e hx; omega

end Bonuses

theorem pinCount_le (a : PinSet) : pinCount a ≤ 10 := Nat.le_trans (List.length_filter_le ..) (by simp)

theorem Sheet.trimmed_pinfall_le (sh : Sheet) (before after : PinSet) (foul : Bool) (speed : Option Half) :
    (sh.trimmed before after foul speed).pinfall ≤ 10 := by
  simp only [Sheet.trimmed, trimBall]
  split
  · exact Nat.zero_le _
  · exact pinCount_le _

/-- Balls of at most ten pins each. -/
theorem pinfalls_le {balls : List BallRecord} (each : ∀ b ∈ balls, b.pinfall ≤ 10) : pinfalls balls ≤ 10 * balls.length := by
  rw [pinfalls_eq_sum]
  induction balls with
  | nil => exact Nat.le_refl 0
  | cons b rest ih =>
    obtain ⟨first, others⟩ := List.forall_mem_cons.1 each
    have sum := ih others
    rw [List.map_cons, List.sum_cons, List.length_cons]
    omega

/-- What every sheet of a game recorded ball by ball keeps: the frames ahead are untouched, the current frame goes on with
two balls at most, the pending-bonus list fits it and is empty once the game has ended, and no score exceeds 30. -/
structure Sheet.Sound (sh : Sheet) : Prop where
  inside : 1 ≤ sh.current ∧ sh.current ≤ 10
  ahead : ∀ g, sh.current < g → (sh.frame g).balls = [] ∧ (sh.frame g).kind = none
  few : sh.over = false → (sh.frame sh.current).balls.length ≤ 2
  pins : ∀ b ∈ (sh.frame sh.current).balls, b.pinfall ≤ 10
  bonuses : BonusesFit sh.current sh.bonuses
  closed : sh.over = true → sh.bonuses = []
  scores : ∀ g x, (sh.frame g).score = some x → x ≤ 30

theorem Sheet.Sound.blank : Sheet.blank.Sound where
  inside := by decide
  ahead g _ := by rw [Sheet.blank_frame]; exact ⟨rfl, rfl⟩
  few _ := by decide
  pins := by decide
  bonuses := .nil _
  closed _ := rfl
  scores g x score := by rw [Sheet.blank_frame] at score; cases score

/-- Running totals are no part of it. -/
theorem Sheet.Sound.total {sh : Sheet} (sound : sh.Sound) : sh.total.Sound where
  inside := sound.inside
  ahead g above := by simpa using sound.ahead g above
  few := by simpa [Sheet.over] using sound.few
  pins := by simpa using sound.pins
  bonuses := sound.bonuses
  closed := by simpa [Sheet.over] using sound.closed
  scores g x score := sound.scores g x (by simpa using score)

section Keeping

variable {sh : Sheet} {b : BallRecord} {kind : FrameKind} {score owed : Option Nat}

theorem Sheet.Sound.pay_scores (sound : sh.Sound) (ten : b.pinfall ≤ 10) (g x : Nat)
    (score : ((sh.pay b.pinfall).frame g).score = some x) : x ≤ 30 := by
  rcases Sheet.pay_score_cases sh _ score with before | ⟨e, listed, owed, rfl⟩
  · exact sound.scores g x before
  · have := sound.bonuses.owing e listed
    have := sound.bonuses.bounded e listed
    omega

theorem Sheet.Sound.ballsWith_pins (sound : sh.Sound) (ten : b.pinfall ≤ 10) : ∀ x ∈ sh.ballsWith b, x.pinfall ≤ 10 := by
  intro x listed
  rcases List.mem_append.1 listed with old | new
  · exact sound.pins x old
  · rw [List.mem_singleton.1 new]; exact ten

theorem Sheet.Sound.frameGoesOn (sound : sh.Sound) (playing : sh.over = false) (ten : b.pinfall ≤ 10)
    (goesOn : frameOutcome sh.current (sh.ballsWith b) = .continues) : (sh.frameGoesOn b).Sound := by
  have kept := Sheet.frameGoesOn_kept (b := b) sound.inside
  have current := Sheet.frameGoesOn_frame_same (b := b) sound.inside
  have stillPlaying : (sh.frameGoesOn b).over = false := by rw [Sheet.over, (kept 10).1]; exact playing
  constructor
  case inside => exact sound.inside
  case ahead =>
    intro g above
    rw [Sheet.frameGoesOn_frame_other (sh := sh) (Nat.ne_of_gt above), Sheet.pay_frame_balls, Sheet.pay_frame_kind]
    exact sound.ahead g above
  case few =>
    rw [Sheet.frameGoesOn_current, current]
    exact fun _ => frameOutcome_length_of_continues goesOn
  case pins =>
    rw [Sheet.frameGoesOn_current, current]
    exact sound.ballsWith_pins ten
  case bonuses => exact sound.bonuses.paid ten
  case closed => simp [stillPlaying]
  case scores =>
    intro g x
    rw [(kept g).2]
    exact sound.pay_scores ten g x

theorem Sheet.Sound.frameClosed_scores (sound : sh.Sound) (playing : sh.over = false) (ten : b.pinfall ≤ 10)
    (ends : frameOutcome sh.current (sh.ballsWith b) = .ends kind score owed) (g x : Nat)
    (scored : ((sh.frameClosed b kind score).frame g).score = some x) : x ≤ 30 := by
  by_cases here : g = sh.current
  · rw [here, Sheet.frameClosed_frame_same sound.inside] at scored
    obtain rfl : score = some x := scored
    have sum := frameOutcome_score_le ends
    have most := pinfalls_le (sound.ballsWith_pins ten)
    have three : (sh.ballsWith b).length ≤ 3 := by
      rw [Sheet.ballsWith, List.length_append]
      exact Nat.add_le_add_right (sound.few playing) 1
    omega
  · rw [Sheet.frameClosed_frame_other here] at scored
    exact sound.pay_scores ten g x scored

theorem Sheet.Sound.frameEnds_early (sound : sh.Sound) (early : sh.current < 10) (playing : sh.over = false)
    (ten : b.pinfall ≤ 10) (ends : frameOutcome sh.current (sh.ballsWith b) = .ends kind score owed) :
    (sh.frameEnds b kind score owed).Sound := by
  obtain ⟨current, bonuses, frames⟩ := Sheet.frameEnds_early (b := b) (kind := kind) (score := score) (owed := owed) early
  have ahead : ∀ g, sh.current < g → ((sh.frameEnds b kind score owed).frame g).balls = [] ∧
      ((sh.frameEnds b kind score owed).frame g).kind = none := by
    intro g above
    rw [frames, Sheet.frameClosed_frame_other (Nat.ne_of_gt above), Sheet.pay_frame_balls, Sheet.pay_frame_kind]
    exact sound.ahead g above
  have next := (ahead (sh.current + 1) (by omega)).1
  constructor
  case inside => rw [current]; omega
  case ahead =>
    rw [current]
    exact fun g above => ahead g (by omega)
  case few => simp [current, next]
  case pins => simp [current, next]
  case bonuses =>
    have few : ∀ n, owed = some n → 1 ≤ n ∧ n ≤ 2 := by
      rw [frameOutcome, if_neg (Nat.ne_of_lt early)] at ends
      exact (earlyFrame_of_ends ends).2
    rw [current, bonuses]
    exact sound.bonuses.paid_appended ten sound.inside.1 few
  case closed => simp [Sheet.over, (ahead 10 early).2]
  case scores =>
    intro g x
    rw [frames]
    exact sound.frameClosed_scores playing ten ends g x

theorem Sheet.Sound.frameEnds_tenth (sound : sh.Sound) (tenth : sh.current = 10) (playing : sh.over = false)
    (ten : b.pinfall ≤ 10) (ends : frameOutcome sh.current (sh.ballsWith b) = .ends kind score owed) :
    (sh.frameEnds b kind score owed).Sound := by
  have kept := Sheet.frameEnds_kept sound.inside ends
  have own := Sheet.frameClosed_frame_same (b := b) (kind := kind) (score := score) sound.inside
  have closes := sound.frameClosed_scores playing ten ends
  obtain rfl : owed = none := frameOutcome_tenth_of_ends (tenth ▸ ends)
  obtain ⟨current, bonuses, frames⟩ := Sheet.frameEnds_tenth (b := b) (kind := kind) (score := score) tenth
  rw [tenth] at own
  constructor
  case inside => omega
  case ahead =>
    rw [current]
    intro g above
    rw [Sheet.frame_outside _ (by omega)]
    exact ⟨rfl, rfl⟩
  case few => simp [Sheet.over, kept, own]
  case pins =>
    rw [current, (kept 10).1, own]
    exact sound.ballsWith_pins ten
  case bonuses => rw [bonuses]; exact .nil _
  case closed => exact fun _ => bonuses
  case scores =>
    intro g x scored
    rw [Sheet.frame, frames] at scored
    rcases closeEntries_score_cases _ _ scored with before | ⟨e, still, rfl⟩
    · exact closes g x before
    · have := (sound.bonuses.paid ten).owing e still
      have := (sound.bonuses.paid ten).bounded e still
      omega

/-- A ball recorded while the game goes on keeps the sheet sound. -/
theorem Sheet.Sound.record (sound : sh.Sound) (playing : sh.over = false) (before after : PinSet) (foul : Bool)
    (speed : Option Half) : (sh.record before after foul speed).1.Sound := by
  have ten := sh.trimmed_pinfall_le before after foul speed
  rcases sh.record_cases before after foul speed with ⟨goesOn, recorded⟩ | ⟨kind, score, owed, ends, recorded⟩
  · rw [recorded]
    exact (sound.frameGoesOn playing ten goesOn).total
  · rw [recorded]
    rcases Nat.lt_or_eq_of_le sound.inside.2 with early | tenth
    · exact (sound.frameEnds_early early playing ten ends).total
    · exact (sound.frameEnds_tenth tenth playing ten ends).total

end Keeping

/-- Every running total of the sheet is up to date (R59). -/
def Sheet.Totalled (sh : Sheet) : Prop := ∀ f, 1 ≤ f → f ≤ 10 → (sh.frame f).running = sh.runningTotal f

theorem Sheet.totalled_total (sh : Sheet) : sh.total.Totalled := fun f low high => by
  rw [sh.total_frame ⟨low, high⟩, Sheet.total_runningTotal]

theorem Sheet.totalled_record (sh : Sheet) (before after : PinSet) (foul : Bool) (speed : Option Half) :
    (sh.record before after foul speed).1.Totalled := by
  rcases sh.record_cases before after foul speed with ⟨-, recorded⟩ | ⟨kind, score, owed, -, recorded⟩
  · rw [recorded]; exact Sheet.totalled_total _
  · rw [recorded]; exact Sheet.totalled_total _

theorem Sheet.totalled_blank : Sheet.blank.Totalled := by
  intro f low high
  rw [Sheet.blank_frame, Sheet.runningTotal_eq, if_neg]
  · rfl
  · intro scored
    have first := List.all_eq_true.1 scored 1 ((mem_numbers f 1).2 ⟨Nat.le_refl 1, low⟩)
    rw [Sheet.blank_frame] at first
    cases first

/-- What the empty game has, and every ball recorded while the game goes on keeps, every game has. -/
theorem recordGame_keeps (P : Sheet → Prop) (start : P .blank)
    (step : ∀ sh : Sheet, ∀ b : BallRecord, P sh → sh.over = false → P (sh.record b.before b.after b.foul b.speed).1)
    (balls : List BallRecord) : P (recordGame balls) := by
  refine foldl_keeps P _ balls _ start fun sh b _ kept => ?_
  split
  · exact kept
  · next playing => exact step sh b kept (Bool.eq_false_iff.2 playing)

theorem recordGame_sound (balls : List BallRecord) : (recordGame balls).Sound :=
  recordGame_keeps _ .blank (fun _ _ sound playing => sound.record playing ..) balls

theorem recordGame_totalled (balls : List BallRecord) : (recordGame balls).Totalled :=
  recordGame_keeps _ Sheet.totalled_blank (fun sh b _ _ => sh.totalled_record b.before b.after b.foul b.speed) balls

theorem recordGame_gameTotal_le (balls : List BallRecord) : (recordGame balls).gameTotal ≤ 300 := by
  rw [Sheet.gameTotal, recordGame_totalled balls 10 (by omega) (Nat.le_refl 10)]
  exact Sheet.runningTotal_le _ (recordGame_sound balls).scores 10

/-- Settles O32: the invariant `Sheet.Sound` and the running totals of every game recorded ball by ball. -/
theorem bonusesAndRunningTotalsOfEveryGame : Obligations.BonusesAndRunningTotalsOfEveryGame := by
  refine ⟨fun balls => ?_, fun balls f low high => ⟨?_, (recordGame_sound balls).scores f, recordGame_gameTotal_le balls⟩⟩
  · have sound := recordGame_sound balls
    refine ⟨sound.bonuses.few, sound.bonuses.ascending.imp And.left, fun e listed => ?_, sound.closed⟩
    obtain ⟨first, before⟩ := sound.bonuses.frames e listed
    obtain ⟨least, most⟩ := sound.bonuses.owing e listed
    exact ⟨first, Nat.le_of_lt_succ (Nat.lt_of_lt_of_le before sound.inside.2), least, most⟩
  · rw [recordGame_totalled balls f low high, Sheet.runningTotal_eq]

end Sys2Proof.Machine
end

section
/-! The reads of the house and SET CLOCK (chapters 7, 8, 9 and 11): the body of each read as its rule lists it, the
requests of the desk alone, and the statement of the reads. -/

namespace Sys2Proof.Machine

open Sys2Proof

/-! ### Who asks (R176) -/

theorem isDesk_iff (o : Origin) : isDesk o = true ↔ o = .desk := by simp [isDesk]

/-- The desk, any station, and no console but that of the pair (R135). -/
theorem mayReadReturn_iff (p : Nat) (o : Origin) : mayReadReturn p o = true ↔ ∀ c, o = .console c → c = p := by
  cases o <;> simp [mayReadReturn, isConsole, isConsoleOf]

section DeskAlone

variable {s : State} {c : Instr} {hd : Header} {unit : House → Reply}

/-- A request of the desk alone is refused every other origin. -/
theorem refuses_of_desk_alone {reply : Reply} (takes : s.takes hd) (quiet : s.house.quiet)
    (arm : exec c s = request hd unit s)
    (guarded : unit s.house = if !isDesk hd.origin then refuse s.house .notYours else reply)
    (away : hd.origin ≠ .desk) : Refuses s c hd .notYours := by
  have notDesk : isDesk hd.origin = false := by simp [isDesk, away]
  exact refuses_of_reply takes quiet arm (by simp [guarded, notDesk])

/-- A read of the desk alone gives the desk its body. -/
theorem answers_of_desk_alone {b : Body} (takes : s.takes hd) (quiet : s.house.quiet)
    (arm : exec c s = request hd unit s)
    (guarded : unit s.house = if !isDesk hd.origin then refuse s.house .notYours else doneWith s.house b)
    (desk : hd.origin = .desk) : Answers s c hd s.house .done b :=
  answers_of_reply takes quiet arm (by simp [guarded, (isDesk_iff _).2 desk, doneWith])

end DeskAlone

/-! ### RETURN STATUS, CALL LIST and READ PLAN (R135, R150, R153) -/

section Reads

variable {o : Origin} {p : Nat} {h : House}

theorem returnStatus_no_pair (out : isPair p = false) : returnStatus o p h = refuse h .noRecord := by
  simp [returnStatus, out]

theorem returnStatus_not_readable (pair : isPair p = true) (foreign : mayReadReturn p o = false) :
    returnStatus o p h = refuse h .notYours := by
  simp [returnStatus, pair, foreign]

theorem returnStatus_readable (pair : isPair p = true) (may : mayReadReturn p o = true) :
    returnStatus o p h = doneWith h (.returns (returnBody (h.ret p) h.now)) := by
  simp [returnStatus, pair, may]

theorem callListAt_of_console (console : isConsole o = true) : callListAt o h = refuse h .notYours := by
  simp [callListAt, console]

theorem callListAt_of_not_console (other : isConsole o = false) : callListAt o h = doneWith h (.calls h.callList) := by
  simp [callListAt, other]

theorem readPlanAt_no_plan (out : 8 ≤ p) : readPlanAt o p h = refuse h .noRecord := by
  simp [readPlanAt, isPlan, Nat.not_lt.2 out]

theorem readPlanAt_of_plan (plan : p < 8) :
    readPlanAt o p h = if !isDesk o then refuse h .notYours else doneWith h (.plan p (h.plan p)) := by
  simp [readPlanAt, isPlan, plan]

end Reads

/-- A class shows its credit while its setting is RATIO (R150). -/
theorem CallQueue.credit_shown (q : CallQueue) (c : Fin 4) :
    (q.ratioOf c).map (fun _ => q.credits[c]) = match q.dispatch[c] with
      | .ratio _ => some q.credits[c]
      | .strict => none := by
  unfold CallQueue.ratioOf
  cases q.dispatch[c] <;> rfl

/-- The whole state of the Call Queue, the dispatch settings in ascending class (R150). -/
theorem House.callList_eq (h : House) :
    h.callList =
      { calls := h.calls.queue, unqueued := h.unqueuedList, stations := h.calls.stations.toList,
        classMap := h.calls.classMap,
        dispatch := ([0, 1, 2, 3] : List (Fin 4)).map fun c =>
          (h.calls.dispatch[c], match h.calls.dispatch[c] with
            | .ratio _ => some h.calls.credits[c]
            | .strict => none) } := by
  rw [House.callList]
  simp only [CallQueue.credit_shown]
  rfl

/-! ### ATTENTION SUMMARY (R177) -/

/-- The four lists of R177, a pair standing in the last where its module is absent and one of its lanes has a tab. -/
theorem House.formSummary_eq (h : House) :
    h.formSummary =
      { attention := numbersWhere 48 fun n => (h.lane n).causes.attention,
        restart := numbersWhere 48 fun n => (h.lane n).causes.restart,
        warnings := numbersWhere 64 fun a => ((h.tab a).map fun r => decide (r.warning = .set)).getD false,
        missing := numbersWhere 24 fun p => !(h.slot p).present &&
          ((h.lane (2 * p - 1)).tab.isSome || (h.lane (2 * p)).tab.isSome) } := by
  have warned (a : Nat) : (match h.tab a with | some r => decide (r.warning = .set) | none => false) =
      ((h.tab a).map fun r => decide (r.warning = .set)).getD false := by
    cases h.tab a <;> rfl
  have carries (p : Nat) : ((lanesOf p).any fun n => (h.lane n).tab.isSome) =
      ((h.lane (2 * p - 1)).tab.isSome || (h.lane (2 * p)).tab.isSome) := by
    simp [lanesOf, oddLane, evenLane]
  simp only [← warned, ← carries]
  rfl

/-! ### SET CLOCK (R180) -/

theorem clamp_zero (high value : Nat) : clamp 0 high value = min value high := by
  simp only [clamp, Nat.not_lt_zero, if_false]
  split <;> omega

theorem wasClamped_zero_iff (high value : Nat) : wasClamped 0 high value = true ↔ high < value := by
  rw [wasClamped, clamp_zero, decide_eq_true_iff]
  omega

/-- Each field is held to its largest value. -/
theorem Clock.write_eq (c : Clock) (day hour minute second : Nat) :
    c.write day hour minute second =
      { c with isSet := true, day := min day 65535,
               time := min hour 23 * 3600 + min minute 59 * 60 + min second 59 } := by
  simp only [Clock.write, clamp_zero]

theorem clockClamped_iff (day hour minute second : Nat) :
    clockClamped day hour minute second = true ↔ 65535 < day ∨ 23 < hour ∨ 59 < minute ∨ 59 < second := by
  simp only [clockClamped, Bool.or_eq_true, wasClamped_zero_iff, or_assoc]

/-- SET CLOCK holds each field to its range, and is answered CLAMPED where one was outside it (R180). -/
theorem setClockAt_of_desk (h : House) (day hour minute second : Nat) :
    setClockAt .desk day hour minute second h =
      ⟨{ h with clock := { h.clock with
          isSet := true, day := min day 65535, time := min hour 23 * 3600 + min minute 59 * 60 + min second 59 } },
        if 65535 < day ∨ 23 < hour ∨ 59 < minute ∨ 59 < second then .clamped else .done, .empty⟩ := by
  simp only [setClockAt, (isDesk_iff _).2, doneOrClamped, Clock.write_eq, clockClamped_iff, Bool.not_true,
    Bool.false_eq_true, if_false]

/-- The clock is not read by the end of a step. -/
theorem House.setClock_quiet {h : House} (quiet : h.quiet) (c : Clock) : ({ h with clock := c } : House).quiet :=
  House.quiet_of_same h _ quiet rfl rfl rfl rfl rfl

/-- Settles O15, a clause for each branch of the requests: a read leaves the house as it was and its body is the record
as its rule lists it, the summary kept at the port being the one the records give. -/
theorem houseReadsAndTheClock : Obligations.HouseReadsAndTheClock := by
  refine fun s hd quiet takes => ⟨fun p pair own => ?_, fun p out _ => ?_, fun p c pair console foreign => ?_,
    fun other => ?_, fun console => ?_, fun desk => ⟨fun p out => ?_, fun p plan => ?_, ?_, ?_, ?_,
      fun day hour minute second => ?_⟩, fun away => ⟨?_, ?_, ?_, ?_, fun day hour minute second => ?_⟩⟩
  · exact answers_of_reply takes quiet rfl (returnStatus_readable pair ((mayReadReturn_iff p _).2 own))
  · exact refuses_of_reply takes quiet rfl (returnStatus_no_pair out)
  · have barred : mayReadReturn p hd.origin = false :=
      Bool.eq_false_iff.2 fun may => foreign ((mayReadReturn_iff p _).1 may c console)
    exact refuses_of_reply takes quiet rfl (returnStatus_not_readable pair barred)
  · exact answers_of_reply takes quiet rfl (by rw [callListAt_of_not_console other, House.callList_eq]; rfl)
  · exact refuses_of_reply takes quiet rfl (callListAt_of_console console)
  · exact refuses_of_reply takes quiet rfl (readPlanAt_no_plan out)
  · exact answers_of_desk_alone takes quiet rfl (readPlanAt_of_plan plan) desk
  · have summary := quiet.2.1
    rw [← House.formSummary_eq, ← summary]
    exact answers_of_desk_alone takes quiet rfl rfl desk
  · exact answers_of_desk_alone takes quiet rfl rfl desk
  · exact answers_of_desk_alone takes quiet rfl rfl desk
  · exact answers_of_reply takes (House.setClock_quiet quiet _) rfl (by rw [desk, setClockAt_of_desk])
  · exact refuses_of_desk_alone takes quiet rfl rfl away
  · exact refuses_of_desk_alone takes quiet rfl rfl away
  · exact refuses_of_desk_alone takes quiet rfl rfl away
  · exact refuses_of_desk_alone takes quiet rfl rfl away
  · exact refuses_of_desk_alone takes quiet rfl rfl away

end Sys2Proof.Machine
end

section
/-! The mechanic calls (chapter 8): what a raise of a non-blocking kind does, the choice of the next call by the dispatch
settings, and the statements of ASSIST, DESK CALL and NEXT CALL. -/

namespace Sys2Proof.Machine

open Sys2Proof

/-! ### Kinds in the unqueued sets and in the queue (R139, R140) -/

theorem CallKind.place_injective {j k : CallKind} (same : j.place = k.place) : j = k := by
  revert same
  cases j <;> cases k <;> decide

theorem UnqueuedSet.join_has_other (u : UnqueuedSet) {j k : CallKind} (other : j ≠ k) (code : Option Half) :
    (u.join k code).has j = u.has j := by
  have apart : k.place.val ≠ j.place.val := fun same => other (CallKind.place_injective (Fin.ext same.symm))
  simp [UnqueuedSet.has, UnqueuedSet.join, Vector.getElem_set_ne _ _ apart]

/-- A counted repeat finds the calls it found before. -/
theorem countRepeat_find_isSome (queue : List CallRecord) (n m : Nat) (k j : CallKind) :
    ((countRepeat queue n k).find? fun c => decide (c.lane = m) && decide (c.kind = j)).isSome =
      (queue.find? fun c => decide (c.lane = m) && decide (c.kind = j)).isSome := by
  rw [countRepeat, List.find?_map, Option.isSome_map]
  congr 2
  funext c
  by_cases own : c.lane = n ∧ c.kind = k <;> simp [own]

/-! ### What a raise does (R139) -/

section Raises

variable {h : House} {n : Nat} {k : CallKind} {code : Option Half}

theorem House.takeRaise_of_call {call : CallRecord} (held : h.calls.find n k = some call) :
    h.takeRaise n k code = { h with calls := { h.calls with queue := countRepeat h.calls.queue n k } } := by
  simp [House.takeRaise, held]

theorem House.takeRaise_of_unqueued (free : h.calls.find n k = none) (waits : (h.unqueued n).has k = true) :
    h.takeRaise n k code = h := by
  simp [House.takeRaise, free, waits]

theorem House.takeRaise_of_room (free : h.calls.find n k = none) (unheard : (h.unqueued n).has k = false)
    (room : h.calls.queue.length < 32) : h.takeRaise n k code = h.enterCall n k code := by
  simp [House.takeRaise, free, unheard, room]

theorem House.takeRaise_of_full (free : h.calls.find n k = none) (unheard : (h.unqueued n).has k = false)
    (full : 32 ≤ h.calls.queue.length) : h.takeRaise n k code = h.setUnqueued n ((h.unqueued n).join k code) := by
  simp [House.takeRaise, free, unheard, Nat.not_lt.2 full]

/-- All that a raise can do: count a repeat, nothing, enter the queue, or join the unqueued set (R139). -/
theorem House.takeRaise_cases (h : House) (n : Nat) (k : CallKind) (code : Option Half) :
    h.takeRaise n k code = { h with calls := { h.calls with queue := countRepeat h.calls.queue n k } } ∨
      h.takeRaise n k code = h ∨ h.takeRaise n k code = h.enterCall n k code ∨
      h.takeRaise n k code = h.setUnqueued n ((h.unqueued n).join k code) := by
  unfold House.takeRaise
  repeat' split
  · exact .inl rfl
  · exact .inr (.inl rfl)
  · exact .inr (.inr (.inl rfl))
  · exact .inr (.inr (.inr rfl))

/-- The call that enters is the one then found for its lane and kind, under the number last given. -/
theorem House.enterCall_find (free : h.calls.find n k = none) :
    ∃ call, (h.enterCall n k code).calls.find n k = some call ∧ call.number = (h.enterCall n k code).calls.lastNumber := by
  rw [CallQueue.find] at free
  simp [House.enterCall, CallQueue.find, List.find?_append, free]

theorem House.enterCall_find_other (h : House) (n m : Nat) {j k : CallKind} (other : j ≠ k) (code : Option Half) :
    (h.enterCall n k code).calls.find m j = h.calls.find m j := by
  simp [House.enterCall, CallQueue.find, List.find?_append, other.symm]

/-- A raise is of one kind: no other kind comes to be held, or is no longer held, for any lane. -/
theorem House.takeRaise_callHeld_other (h : House) (n m : Nat) {j k : CallKind} (other : j ≠ k) (code : Option Half) :
    (h.takeRaise n k code).callHeld m j = h.callHeld m j := by
  obtain counted | nothing | entered | joined := h.takeRaise_cases n k code
  · rw [counted, House.callHeld, House.callHeld, CallQueue.find, CallQueue.find, countRepeat_find_isSome]
    rfl
  · rw [nothing]
  · rw [entered, House.callHeld, House.enterCall_find_other h n m other code]
    rfl
  · have keeps : (((h.setUnqueued n ((h.unqueued n).join k code)).unqueued m).has j) = (h.unqueued m).has j := by
      rw [House.setUnqueued_unqueued]
      split
      · next own => rw [own.1, UnqueuedSet.join_has_other _ other]
      · rfl
    rw [joined, House.callHeld, keeps]
    rfl

/-- Blocking presence is of the blocking kinds alone (R141). -/
theorem House.takeRaise_blocked (calm : isBlocking k = false) (m : Nat) :
    (h.takeRaise n k code).blocked m = h.blocked m := by
  unfold House.blocked
  congr 1
  funext j
  by_cases same : j = k
  · simp [same, calm]
  · rw [House.takeRaise_callHeld_other h n _ same]

theorem House.followCall_of_same {before : Bool} (same : h.blocked n = before) : h.followCall n before = h := by
  cases before <;> simp [House.followCall, same]

/-- A kind that does not block is raised without a report of blocking presence (R141). -/
theorem House.raiseCall_of_not_blocking (calm : isBlocking k = false) :
    h.raiseCall n k code = h.takeRaise n k code := by
  have own : k ≠ .returnJam := by
    rintro rfl
    cases calm
  simp only [House.raiseCall, lanesConcerned, callLane, own, if_false, List.map_cons, List.map_nil, List.foldl_cons,
    List.foldl_nil]
  exact House.followCall_of_same (House.takeRaise_blocked calm n)

/-- A raise writes the Call Queue alone, which the end of a step does not read. -/
theorem House.takeRaise_quiet (quiet : h.quiet) : (h.takeRaise n k code).quiet := by
  apply House.quiet_of_same h _ quiet <;> simp

end Raises

/-! ### ASSIST and DESK CALL (R142) -/

section RaisedByRequest

variable {h : House} {n : Nat} {k : CallKind}

theorem raiseByRequest_repeated {call : CallRecord} (held : h.calls.find n k = some call) :
    raiseByRequest n k h = doneWith (h.raiseCall n k) (.callRepeated call.number) := by
  simp only [raiseByRequest, held]

/-- A kind already in the unqueued set, or raised with the queue full, is in no call after the raise. -/
theorem raiseByRequest_unqueued (calm : isBlocking k = false) (free : h.calls.find n k = none)
    (kept : (h.unqueued n).has k = true ∨ 32 ≤ h.calls.queue.length) :
    raiseByRequest n k h = doneWith (h.raiseCall n k) .callUnqueued := by
  have still : (h.raiseCall n k).calls.find n k = none := by
    rw [House.raiseCall_of_not_blocking calm]
    cases waits : (h.unqueued n).has k with
    | true => rwa [House.takeRaise_of_unqueued free waits]
    | false =>
      have full := kept.resolve_left (by simp [waits])
      rwa [House.takeRaise_of_full free waits full]
  simp only [raiseByRequest, free, still]

theorem raiseByRequest_opened (calm : isBlocking k = false) (free : h.calls.find n k = none)
    (unheard : (h.unqueued n).has k = false) (room : h.calls.queue.length < 32) :
    raiseByRequest n k h = doneWith (h.raiseCall n k) (.callOpened (h.raiseCall n k).calls.lastNumber) := by
  obtain ⟨call, found, number⟩ := House.enterCall_find (code := none) free
  have raised : h.raiseCall n k = h.enterCall n k none := by
    rw [House.raiseCall_of_not_blocking calm, House.takeRaise_of_room free unheard room]
  rw [← raised] at found number
  simp only [raiseByRequest, free, found, number]

/-- The three outcomes of a raise by a request are each answered DONE with the body that names them. -/
theorem answers_of_raiseByRequest {s : State} {hd : Header} {c : Instr} {unit : House → Reply} (takes : s.takes hd)
    (quiet : s.house.quiet) (calm : isBlocking k = false) (arm : exec c s = request hd unit s)
    (raises : unit s.house = raiseByRequest n k s.house) :
    (∀ call, s.house.calls.find n k = some call →
      Answers s c hd (s.house.raiseCall n k) .done (.callRepeated call.number)) ∧
    (s.house.calls.find n k = none → ((s.house.unqueued n).has k = true ∨ 32 ≤ s.house.calls.queue.length) →
      Answers s c hd (s.house.raiseCall n k) .done .callUnqueued) ∧
    (s.house.calls.find n k = none → (s.house.unqueued n).has k = false → s.house.calls.queue.length < 32 →
      Answers s c hd (s.house.raiseCall n k) .done (.callOpened (s.house.raiseCall n k).calls.lastNumber)) := by
  have quiet' : (s.house.raiseCall n k).quiet := by
    rw [House.raiseCall_of_not_blocking calm]
    exact House.takeRaise_quiet quiet
  refine ⟨fun call held => ?_, fun free kept => ?_, fun free unheard room => ?_⟩
  · exact answers_of_reply takes quiet' arm (raises.trans (raiseByRequest_repeated held))
  · exact answers_of_reply takes quiet' arm (raises.trans (raiseByRequest_unqueued calm free kept))
  · exact answers_of_reply takes quiet' arm (raises.trans (raiseByRequest_opened calm free unheard room))

end RaisedByRequest

/-- Settles O44: the checks of lane and origin, and then one raise of a kind that does not block, whose outcome is the body
of the answer. -/
theorem assistAndDeskCallAreAnswered : Obligations.AssistAndDeskCallAreAnswered := by
  intro s hd n quiet takes
  refine ⟨fun out _ => ⟨?_, ?_⟩, fun lane away foreign => ?_, fun lane away => ?_, fun lane own => ?_, fun lane desk => ?_⟩
  · exact refuses_of_reply takes quiet rfl (by simp [assistCall, out])
  · exact refuses_of_reply takes quiet rfl (by simp [deskCallFor, out])
  · have barred : deskOrOwnConsole n hd.origin = false :=
      Bool.eq_false_iff.2 fun own => ((deskOrOwnConsole_iff n _).1 own).elim away foreign
    exact refuses_of_reply takes quiet rfl (by simp [assistCall, lane, barred])
  · exact refuses_of_reply takes quiet rfl (by simp [deskCallFor, lane, isDesk, away])
  · exact answers_of_raiseByRequest takes quiet rfl rfl (by simp [assistCall, lane, (deskOrOwnConsole_iff n _).2 own])
  · exact answers_of_raiseByRequest takes quiet rfl rfl (by simp [deskCallFor, lane, (isDesk_iff _).2 desk])

/-! ### The choice of the next call (R145) -/

/-- Going down the classes stops at the highest one that gives a result. -/
theorem classesDown_findSome {α : Type} {f : Fin 4 → Option α} {c : Fin 4} {x : α} (here : f c = some x)
    (above : ∀ d, c < d → f d = none) : classesDown.findSome? f = some x := by
  match c with
  | 3 => simp [classesDown, here]
  | 2 => simp [classesDown, here, above 3 (by decide)]
  | 1 => simp [classesDown, here, above 3 (by decide), above 2 (by decide)]
  | 0 => simp [classesDown, here, above 3 (by decide), above 2 (by decide), above 1 (by decide)]

theorem classesDown_findSome_none {α : Type} {f : Fin 4 → Option α} (nowhere : ∀ d, f d = none) :
    classesDown.findSome? f = none :=
  List.findSome?_eq_none_iff.2 fun d _ => nowhere d

section Choice

variable {q : CallQueue} {c : Fin 4} {r : CallRecord}

theorem CallQueue.ratioOf_isSome_iff (q : CallQueue) (c : Fin 4) :
    (q.ratioOf c).isSome = true ↔ q.dispatch[c] ≠ .strict := by
  unfold CallQueue.ratioOf
  cases q.dispatch[c] <;> simp

theorem CallQueue.oldestWaiting_none (taken : ∀ r ∈ q.queue, r.station.isSome = true) (c : Fin 4) :
    q.oldestWaiting c = none := by
  refine List.find?_eq_none.2 fun r inQueue => ?_
  simp [CallRecord.waiting, Option.isSome_iff_ne_none.1 (taken r inQueue)]

theorem CallQueue.strictChoice_eq_some (strict : q.dispatch[c] = .strict) (oldest : q.oldestWaiting c = some r)
    (above : ∀ d, c < d → q.dispatch[d] = .strict → q.oldestWaiting d = none) : q.strictChoice = some r := by
  refine classesDown_findSome (c := c) (by rw [if_pos strict, oldest]) fun d higher => ?_
  split
  · next own => exact above d higher own
  · rfl

theorem CallQueue.strictChoice_eq_none (idle : ∀ d : Fin 4, q.dispatch[d] = .strict → q.oldestWaiting d = none) :
    q.strictChoice = none := by
  refine classesDown_findSome_none fun d => ?_
  split
  · next own => exact idle d own
  · rfl

theorem CallQueue.takeRatio_eq_some (ratio : q.dispatch[c] ≠ .strict) (oldest : q.oldestWaiting c = some r)
    (credit : 0 < q.credits[c])
    (above : ∀ d, c < d → q.dispatch[d] ≠ .strict → 0 < q.credits[d] → q.oldestWaiting d = none) :
    q.takeRatio = some ({ q with credits := q.credits.set c (q.credits[c] - 1) }, r) := by
  have chosen : q.ratioChoice = some (c, r) := by
    refine classesDown_findSome (c := c) ?_ fun d higher => ?_
    · rw [if_pos ⟨(q.ratioOf_isSome_iff c).2 ratio, credit⟩, oldest]
      rfl
    · split
      · next entitled => rw [above d higher ((q.ratioOf_isSome_iff d).1 entitled.1) entitled.2]; rfl
      · rfl
  rw [CallQueue.takeRatio, chosen]
  rfl

theorem CallQueue.takeRatio_eq_none
    (idle : ∀ d : Fin 4, q.dispatch[d] ≠ .strict → 0 < q.credits[d] → q.oldestWaiting d = none) : q.takeRatio = none := by
  have unchosen : q.ratioChoice = none := by
    refine classesDown_findSome_none fun d => ?_
    split
    · next entitled => rw [idle d ((q.ratioOf_isSome_iff d).1 entitled.1) entitled.2]; rfl
    · rfl
  rw [CallQueue.takeRatio, unchosen]
  rfl

/-- Writing each class of a list from what it held writes those classes once, and leaves the others. -/
theorem foldl_set_getElem (f : Fin 4 → Nat → Nat) (classes : List (Fin 4)) (once : classes.Nodup) (v : Vector Nat 4)
    (c : Fin 4) :
    (classes.foldl (fun (v : Vector Nat 4) (d : Fin 4) => v.set d (f d v[d])) v)[c] =
      if c ∈ classes then f c v[c] else v[c] := by
  induction classes generalizing v with
  | nil => rw [List.foldl_nil, if_neg List.not_mem_nil]
  | cons d rest ih =>
    obtain ⟨fresh, once⟩ := List.nodup_cons.1 once
    rw [List.foldl_cons, ih once]
    by_cases own : c = d
    · subst own
      rw [if_neg fresh, if_pos List.mem_cons_self]
      exact Vector.getElem_set_self _
    · have kept : (v.set d (f d v[d]))[c] = v[c] := Vector.getElem_set_ne _ _ fun same => own (Fin.ext same.symm)
      simp only [kept, List.mem_cons, own, false_or]

/-- A new round gives each RATIO class its ratio, and leaves the STRICT classes what they had. -/
theorem CallQueue.newRound_credit (q : CallQueue) (c : Fin 4) :
    q.newRound.credits[c] = (q.ratioOf c).getD q.credits[c] := by
  have listed : ∀ d : Fin 4, d ∈ classesDown := by decide
  exact (foldl_set_getElem (fun d held => (q.ratioOf d).getD held) classesDown (by decide) q.credits c).trans
    (if_pos (listed c))

theorem CallQueue.newRound_credits (q : CallQueue) :
    q.newRound.credits = Vector.ofFn fun d : Fin 4 => (q.ratioOf d).getD q.credits[d] := by
  refine Vector.ext fun i low => ?_
  rw [Vector.getElem_ofFn]
  exact q.newRound_credit ⟨i, low⟩

theorem CallQueue.choose_of_strictChoice (chosen : q.strictChoice = some r) : q.choose = some (q, r) := by
  simp only [CallQueue.choose, chosen]

theorem CallQueue.choose_of_takeRatio {taken : CallQueue × CallRecord} (strict : q.strictChoice = none)
    (chosen : q.takeRatio = some taken) : q.choose = some taken := by
  simp only [CallQueue.choose, strict, chosen]

theorem CallQueue.choose_of_newRound (strict : q.strictChoice = none) (spent : q.takeRatio = none) :
    q.choose = q.newRound.takeRatio := by
  simp only [CallQueue.choose, strict, spent]

/-- Where no call is WAITING, none is chosen by any of the three steps. -/
theorem CallQueue.choose_none (taken : ∀ r ∈ q.queue, r.station.isSome = true) : q.choose = none := by
  rw [CallQueue.choose_of_newRound (CallQueue.strictChoice_eq_none fun d _ => CallQueue.oldestWaiting_none taken d)
    (CallQueue.takeRatio_eq_none fun d _ _ => CallQueue.oldestWaiting_none taken d)]
  exact CallQueue.takeRatio_eq_none fun d _ _ => CallQueue.oldestWaiting_none (q := q.newRound) taken d

end Choice

/-! ### NEXT CALL (R145) -/

section NextCall

variable {h : House} {k : Nat}

theorem nextCallFor_full (full : 2 ≤ (numGet h.calls.stations [] k).length) : nextCallFor k h = refuse h .limit :=
  if_pos full

theorem nextCallFor_none (room : (numGet h.calls.stations [] k).length < 2) (chosen : h.calls.choose = none) :
    nextCallFor k h = doneWith h (.nextCall none) := by
  simp only [nextCallFor, if_neg (Nat.not_le.2 room), chosen]

theorem nextCallFor_some {q : CallQueue} {r : CallRecord} (room : (numGet h.calls.stations [] k).length < 2)
    (chosen : h.calls.choose = some (q, r)) :
    nextCallFor k h =
      doneWith { h with calls := q.take r.number k } (.nextCall (some { r with station := some k })) := by
  simp only [nextCallFor, if_neg (Nat.not_le.2 room), chosen]

theorem nextCallAt_of_console {o : Origin} {named : Nat} (console : isConsole o = true) :
    nextCallAt o named h = refuse h .notYours := by
  cases o with
  | console p => rfl
  | desk => cases console
  | station p => cases console

/-- A station asks for itself, and the desk for the station it names. -/
theorem nextCallAt_eq {o : Origin} {named : Nat} (asks : o = .station k ∨ o = .desk ∧ named = k) (low : 1 ≤ k)
    (high : k ≤ 4) : nextCallAt o named h = nextCallFor k h := by
  obtain rfl | ⟨rfl, rfl⟩ := asks
  · rfl
  · exact if_neg (by simp only [Config.stations]; omega)

/-- The Call Queue is not read by the end of a step. -/
theorem House.setCalls_quiet (quiet : h.quiet) (q : CallQueue) : ({ h with calls := q } : House).quiet :=
  House.quiet_of_same h _ quiet rfl rfl rfl rfl rfl

/-- The call chosen is handed to the station, and its record is the body of the answer. -/
theorem nextCall_answers_of_choose {s : State} {hd : Header} {named : Nat} {q : CallQueue} {r : CallRecord}
    (takes : s.takes hd) (quiet : s.house.quiet)
    (asks : ∀ h, nextCallAt hd.origin named h = nextCallFor k h)
    (room : (numGet s.house.calls.stations [] k).length < 2) (chosen : s.house.calls.choose = some (q, r)) :
    Answers s (.nextCall hd named) hd { s.house with calls := q.take r.number k } .done
      (.nextCall (some { r with station := some k })) :=
  answers_of_reply takes (House.setCalls_quiet quiet _) rfl ((asks _).trans (nextCallFor_some room chosen))

end NextCall

/-- Settles O46: the checks of origin and station, the limit, and a clause for each of the three steps of the choice. -/
theorem nextCallFollowsTheDispatchSettings : Obligations.NextCallFollowsTheDispatchSettings := by
  refine ⟨fun s hd named quiet takes => ⟨fun console => ?_, fun desk out => ?_⟩,
    fun s hd named k quiet takes origin low high => ?_⟩
  · exact refuses_of_reply takes quiet rfl (nextCallAt_of_console console)
  · exact refuses_of_reply takes quiet rfl (by rw [desk]; exact if_pos out)
  intro h q held oldest ratio take
  have asks (h : House) : nextCallAt hd.origin named h = nextCallFor k h := nextCallAt_eq origin low high
  have ratios (d : Fin 4) (credit : Nat) :
      (q.ratioOf d).getD credit = if q.dispatch[d] = .strict then credit else ratio d := by
    simp only [CallQueue.ratioOf, ratio]
    cases q.dispatch[d] <;> rfl
  refine ⟨fun full => ?_, fun room => ⟨fun taken => ?_, fun c r strict found above => ?_,
    fun c r idle rated found credit above => ?_, fun c r idle spent positive rated found above => ?_⟩⟩
  · exact refuses_of_reply takes quiet rfl ((asks _).trans (nextCallFor_full full))
  · exact answers_of_reply takes quiet rfl ((asks _).trans (nextCallFor_none room (CallQueue.choose_none taken)))
  · exact nextCall_answers_of_choose takes quiet asks room
      (CallQueue.choose_of_strictChoice (CallQueue.strictChoice_eq_some strict found above))
  · exact nextCall_answers_of_choose takes quiet asks room
      (CallQueue.choose_of_takeRatio (CallQueue.strictChoice_eq_none idle)
        (CallQueue.takeRatio_eq_some rated found credit above))
  · have credits : q.newRound.credits =
        Vector.ofFn fun d : Fin 4 => if q.dispatch[d] = .strict then q.credits[d] else ratio d := by
      simp only [CallQueue.newRound_credits, ratios]
    have renewed : q.newRound.credits[c] = ratio c := by
      rw [CallQueue.newRound_credit, ratios, if_neg rated]
    have chosen : q.choose = some (_, r) :=
      (CallQueue.choose_of_newRound (CallQueue.strictChoice_eq_none idle) (CallQueue.takeRatio_eq_none spent)).trans
        (CallQueue.takeRatio_eq_some (q := q.newRound) rated found (by rw [renewed]; exact positive c rated)
          fun d higher _ _ => above d higher)
    have answered := nextCall_answers_of_choose takes quiet asks room chosen
    rw [renewed, credits] at answered
    exact answered

end Sys2Proof.Machine
end

section
/-! Tabs at their end (chapter 9): what SETTLE and ACK WARNING answer the desk by the tab's state, and the statement of the
two requests. -/

namespace Sys2Proof.Machine

open Sys2Proof

/-! ### SETTLE (R159) -/

section TabAnswers

variable {t : Nat} {h : House}

theorem settleAt_of_free (free : h.tab t = none) : settleAt .desk t h = refuse h .noRecord := by
  simp [settleAt, isDesk, free]

/-- A tab in use is settled unless it is OPEN. -/
theorem settleAt_of_tab {r : TabRecord} (record : h.tab t = some r) :
    settleAt .desk t h = if r.state = .opened then refuse h .wrongState else done (h.setTab t none) := by
  simp [settleAt, isDesk, record]

/-! ### ACK WARNING (R163) -/

theorem ackWarningAt_of_free (free : h.tab t = none) : ackWarningAt .desk t h = refuse h .noRecord := by
  simp [ackWarningAt, isDesk, free]

theorem ackWarningAt_of_due {r : TabRecord} (record : h.tab t = some r) (due : r.state = .due) :
    ackWarningAt .desk t h = refuse h .wrongState := by
  simp [ackWarningAt, isDesk, record, due]

/-! An OPEN tab is answered by its warning. -/

section Opened

variable {r : TabRecord} (record : h.tab t = some r) (opened : r.state = .opened)

include record opened

theorem ackWarningAt_of_clear (clear : r.warning = .none) : ackWarningAt .desk t h = refuse h .wrongState := by
  simp [ackWarningAt, isDesk, record, opened, clear]

theorem ackWarningAt_of_set (set : r.warning = .set) :
    ackWarningAt .desk t h = done (h.setTab t (some { r with warning := .acknowledged })) := by
  simp [ackWarningAt, isDesk, record, opened, set]

theorem ackWarningAt_of_acknowledged (acknowledged : r.warning = .acknowledged) : ackWarningAt .desk t h = done h := by
  simp [ackWarningAt, isDesk, record, opened, acknowledged]

end Opened

end TabAnswers

/-- Settles O52, a clause for each branch of the two requests. A tab freed or a warning acknowledged may leave the attention
summary, so the end of the step is kept in the answer; every other branch leaves the house as it was. -/
theorem dueTabsSettleAndWarningsAreAcknowledged : Obligations.DueTabsSettleAndWarningsAreAcknowledged := by
  refine ⟨fun s hd t quiet takes => ⟨fun away _ => ?_, fun desk => ⟨fun free => ?_, fun r record =>
      ⟨fun opened => ?_, fun due => ?_⟩⟩⟩,
    fun s hd t quiet takes => ⟨fun away _ _ _ _ => ?_, fun desk free => ?_, fun desk r record =>
      ⟨fun due => ?_, fun opened clear => ?_, fun opened acknowledged => ?_, fun opened set => ?_⟩⟩⟩
  · exact refuses_of_desk_alone takes quiet rfl rfl away
  · exact refuses_of_reply takes quiet rfl (by rw [desk, settleAt_of_free free])
  · exact refuses_of_reply takes quiet rfl (by rw [desk, settleAt_of_tab record, if_pos opened])
  · exact answersSettled_of_reply takes rfl (by rw [desk, settleAt_of_tab record, due]; rfl)
  · exact refuses_of_desk_alone takes quiet rfl rfl away
  · exact refuses_of_reply takes quiet rfl (by rw [desk, ackWarningAt_of_free free])
  · exact refuses_of_reply takes quiet rfl (by rw [desk, ackWarningAt_of_due record due])
  · exact refuses_of_reply takes quiet rfl (by rw [desk, ackWarningAt_of_clear record opened clear])
  · exact answers_of_reply takes quiet rfl (by rw [desk, ackWarningAt_of_acknowledged record opened acknowledged]; rfl)
  · exact answersSettled_of_reply takes rfl (by rw [desk, ackWarningAt_of_set record opened set]; rfl)

end Sys2Proof.Machine
end

section
/-! The bill (section 9.6): how each rounding bounds the units of a band, what a held sum keeps, and the fields of a
computed bill; with the statements of the units and of the sums. -/

namespace Sys2Proof.Machine

open Sys2Proof

/-! ### Units by rounding (R170)

Each rounding is said by the numbers of units at or below its result, or at or above it. -/

/-- The greatest number within a bound meets the bound, and the next number passes it. -/
theorem greatest_bounds {n m : Nat} {f : Nat → Nat} (greatest : ∀ u, u ≤ n ↔ f u ≤ m) : f n ≤ m ∧ m < f (n + 1) :=
  ⟨(greatest n).mp (Nat.le_refl n), Nat.not_le.mp fun next => Nat.not_succ_le_self n ((greatest _).mpr next)⟩

section Units

variable {increment : Nat} (positive : 1 ≤ increment) (s u : Nat)

include positive

theorem le_unitsOf_down_iff : u ≤ unitsOf .down s increment ↔ u * (increment * 60) ≤ s :=
  Nat.le_div_iff_mul_le (by omega)

theorem le_unitsOf_nearest_iff :
    u ≤ unitsOf .nearest s increment ↔ 2 * u * (increment * 60) ≤ 2 * s + increment * 60 := by
  have quotient : u ≤ unitsOf .nearest s increment ↔ u * (2 * (increment * 60)) ≤ 2 * s + increment * 60 :=
    Nat.le_div_iff_mul_le (by omega)
  rw [quotient, Nat.mul_left_comm, Nat.mul_assoc]

theorem unitsOf_up_le_iff : unitsOf .up s increment ≤ u ↔ s ≤ u * (increment * 60) := by
  have below : unitsOf .up s increment < u + 1 ↔ s + increment * 60 - 1 < (u + 1) * (increment * 60) :=
    Nat.div_lt_iff_lt_mul (by omega)
  rw [← Nat.lt_succ_iff, Nat.succ_eq_add_one, below, Nat.succ_mul]
  omega

end Units

/-! ### Held sums (R171) -/

@[simp] theorem holdSum_amount (n : Nat) : (holdSum n).amount = min n 9999999 := rfl

theorem holdSum_amount_le (n : Nat) : (holdSum n).amount ≤ 9999999 := Nat.min_le_right ..

@[simp] theorem holdSum_held (n : Nat) : (holdSum n).held = decide (9999999 < n) := rfl

/-! ### Band lines (R170, 10 TABLE 2) -/

section BandLines

variable (p : RatePlan) (b : Band) (s : Nat)

@[simp] theorem bandLine_seconds : (bandLine p b s).seconds = s := by
  unfold bandLine; split <;> rfl

@[simp] theorem bandLine_start : (bandLine p b s).start = b.start := by
  unfold bandLine; split <;> rfl

@[simp] theorem bandLine_price : (bandLine p b s).price = b.price := by
  unfold bandLine; split <;> rfl

variable {p}

theorem bandLine_of_game (game : p.kind = .game) :
    bandLine p b s =
      { start := b.start, price := b.price, seconds := s, units := 0, roundedUp := false, charge := 0, held := false } :=
  if_pos game

theorem bandLine_of_time (time : p.kind = .time) :
    bandLine p b s =
      { start := b.start, price := b.price, seconds := s, units := unitsOf p.rounding s p.increment,
        roundedUp := decide (s < unitsOf p.rounding s p.increment * (p.increment * 60)),
        charge := (holdSum (unitsOf p.rounding s p.increment * b.price)).amount,
        held := (holdSum (unitsOf p.rounding s p.increment * b.price)).held } :=
  if_neg (by simp [time])

theorem bandLine_charge_le : (bandLine p b s).charge ≤ 9999999 := by
  cases kind : p.kind with
  | game => rw [bandLine_of_game b s kind]; exact Nat.zero_le _
  | time => rw [bandLine_of_time b s kind]; exact holdSum_amount_le _

theorem charge_le_of_mem_bandLines {seconds : List Nat} {l : BandLine} (mem : l ∈ bandLines p seconds) :
    l.charge ≤ 9999999 := by
  obtain ⟨k, -, rfl⟩ := List.mem_map.mp mem
  exact bandLine_charge_le ..

/-- A slot with a count of seconds for each band of the plan has its band lines band by band. -/
theorem bandLines_eq_zipWith {seconds : List Nat} (fits : seconds.length = p.bands.length) :
    bandLines p seconds = List.zipWith (bandLine p) p.bands seconds := by
  apply List.ext_getElem
  · simp [bandLines, fits]
  · intro k _ inside
    have inBands : k < p.bands.length := by simp at inside; omega
    simp [bandLines, inBands, fits]

end BandLines

/-- Settles O56, by the rounding of the plan: rounding down and to the nearest give the greatest number of units within
their bound, and rounding up the least. -/
theorem bandSecondsAreRoundedToUnits : Obligations.BandSecondsAreRoundedToUnits := by
  intro p b s positive
  refine ⟨bandLine_seconds .., bandLine_start .., bandLine_price .., fun game => ?_, fun time => ?_⟩
  · simp [bandLine_of_game b s game]
  · rw [bandLine_of_time b s time]
    refine ⟨fun down => ?_, fun up => ?_, fun nearest => ?_, decide_eq_true_iff, rfl, decide_eq_true_iff⟩
    · rw [down]
      exact greatest_bounds (le_unitsOf_down_iff positive s)
    · rw [up]
      exact ⟨(unitsOf_up_le_iff positive s _).mp (Nat.le_refl _), fun u => (unitsOf_up_le_iff positive s u).mpr⟩
    · rw [nearest]
      exact greatest_bounds (le_unitsOf_nearest_iff positive s)

/-! ### The fields of a bill (R171) -/

/-- Every band line of a bill, slot by slot. -/
def Bill.lines (b : Bill) : List BandLine := b.slots.flatMap (·.bands)

section ComputedBill

variable (a : Nat) (r : TabRecord) (p : RatePlan) (stamp : Option Stamp)

theorem computeBill_slots_of_fit (fits : ∀ m ∈ r.slots, m.bandSeconds.length = p.bands.length) :
    (computeBill a r p stamp).slots = r.slots.map fun m =>
      { lane := m.lane, attached := m.attached, downtime := m.downtime,
        bands := List.zipWith (bandLine p) p.bands m.bandSeconds } :=
  List.map_congr_left fun m mem => by rw [bandLines_eq_zipWith (fits m mem)]

theorem computeBill_charge_le : ∀ l ∈ (computeBill a r p stamp).lines, l.charge ≤ 9999999 := by
  intro l mem
  obtain ⟨slot, ofBill, ofSlot⟩ := List.mem_flatMap.mp mem
  obtain ⟨m, -, rfl⟩ := List.mem_map.mp ofBill
  exact charge_le_of_mem_bandLines ofSlot

theorem computeBill_beforeMinimum : (computeBill a r p stamp).beforeMinimum =
    { amount := (holdSum (sumOf ((computeBill a r p stamp).lines.map (·.charge)))).amount,
      held := (holdSum (sumOf ((computeBill a r p stamp).lines.map (·.charge)))).held ||
        (computeBill a r p stamp).lines.any (·.held) } := rfl

theorem computeBill_beforeMinimum_held_iff : (computeBill a r p stamp).beforeMinimum.held = true ↔
    9999999 < sumOf ((computeBill a r p stamp).lines.map (·.charge)) ∨
      ∃ l ∈ (computeBill a r p stamp).lines, l.held = true := by
  simp [computeBill_beforeMinimum]

theorem computeBill_minimumApplied_iff : (computeBill a r p stamp).minimumApplied = true ↔
    p.kind = .time ∧ (computeBill a r p stamp).beforeMinimum.amount < p.minimum ∧
      ∃ l ∈ (computeBill a r p stamp).lines, 0 < l.seconds := by
  have conditions : (computeBill a r p stamp).minimumApplied =
      (decide (p.kind = .time) && decide ((computeBill a r p stamp).beforeMinimum.amount < p.minimum) &&
        (computeBill a r p stamp).lines.any fun l => decide (0 < l.seconds)) := rfl
  simp [conditions, and_assoc]

theorem computeBill_timeCharge : (computeBill a r p stamp).timeCharge =
    if p.kind = .game then 0
    else if (computeBill a r p stamp).minimumApplied then p.minimum
    else (computeBill a r p stamp).beforeMinimum.amount := rfl

theorem computeBill_itemsTotal : (computeBill a r p stamp).itemsTotal =
    holdSum (sumOf (r.items.map fun e => e.quantity * e.price)) := by
  simp [computeBill, Function.comp_def]

theorem computeBill_total : (computeBill a r p stamp).total =
    let all := holdSum (r.gameCharges.amount + (computeBill a r p stamp).timeCharge +
      (computeBill a r p stamp).itemsTotal.amount)
    { amount := all.amount,
      held := all.held || r.gameCharges.held || (computeBill a r p stamp).beforeMinimum.held ||
        (computeBill a r p stamp).itemsTotal.held } := rfl

theorem computeBill_beforeMinimum_amount_le : (computeBill a r p stamp).beforeMinimum.amount ≤ 9999999 :=
  holdSum_amount_le _

/-- The TIME charge is 0, the minimum, or a sum that is held. -/
theorem computeBill_timeCharge_le (minimum : p.minimum ≤ 99999) : (computeBill a r p stamp).timeCharge ≤ 9999999 := by
  rw [computeBill_timeCharge]
  split
  · exact Nat.zero_le _
  · split
    · omega
    · exact computeBill_beforeMinimum_amount_le ..

end ComputedBill

/-- Settles O57, field by field of the bill. -/
theorem billSumsAddUpAndAreHeld : Obligations.BillSumsAddUpAndAreHeld := by
  intro a r p stamp _ minimum
  refine ⟨rfl, rfl, rfl, rfl, computeBill_slots_of_fit a r p stamp, rfl, computeBill_beforeMinimum_held_iff a r p stamp,
    computeBill_minimumApplied_iff a r p stamp, computeBill_timeCharge a r p stamp, rfl, rfl, ?_, ?_, rfl, ?_,
    computeBill_timeCharge_le a r p stamp minimum, computeBill_charge_le a r p stamp, holdSum_amount_le _⟩
  · rw [computeBill_itemsTotal]; rfl
  · rw [computeBill_itemsTotal]; exact decide_eq_true_iff
  · simp [computeBill_total, or_assoc]

end Sys2Proof.Machine
end
